-- ==== Sys2Proof/Word.lean ====
section
/-! DEFINITION. The two word types of the machine: data is 8 bits wide and CPU addresses 16 bits
(spec 00_scope.md R5). -/

namespace Sys2Proof

/-- A `u8` of the spec: the unit of every access (20_memory.md R68). -/
abbrev Byte := BitVec 8

/-- A `u16` of the spec: a CPU address or the program counter. -/
abbrev Word := BitVec 16

/-- An address on the PPU's own 14-bit bus (20_memory.md R50). -/
abbrev PpuAddr := BitVec 14

/-- A 15-bit VRAM address register, `v` or `t` (10_state.md R36). -/
abbrev VramReg := BitVec 15

end Sys2Proof
end

