-- ==== Sys2Proof/Config.lean ====
section
/-! DEFINITION. What a launch of the machine fixes: the sizes of 00_scope.md R5 and the parameters of
00_scope.md R6. The spec leaves no value free: each open point is a parameter with a default, so there
is no opaque constant here. -/

namespace Sys2Proof.Config

/-- Work RAM, bytes (00_scope.md R5). -/
def ramSize : Nat := 2048
/-- Cartridge RAM, bytes (00_scope.md R5). -/
def prgRamSize : Nat := 8192
/-- One PRG bank, bytes (00_scope.md R5). -/
def prgBankSize : Nat := 16384
/-- One CHR bank, and CHR RAM, bytes (00_scope.md R5, 20_memory.md R63). -/
def chrBankSize : Nat := 8192
/-- Nametable VRAM, bytes (00_scope.md R5). -/
def vramSize : Nat := 2048
/-- Palette RAM, bytes (00_scope.md R5). -/
def paletteSize : Nat := 32
/-- OAM, bytes (00_scope.md R5). -/
def oamSize : Nat := 256
/-- Secondary OAM, bytes (00_scope.md R5). -/
def secondaryOamSize : Nat := 32
/-- Cells of the 256 by 240 framebuffer (00_scope.md R5). -/
def framebufferSize : Nat := 61440

/-- The nametable mirroring a machine can have (00_scope.md R6). The third value of the spec,
FourScreen, is refused at load (62_ppu.md R312), so no machine has it. -/
inductive Mirroring where
  | horizontal
  | vertical
  deriving DecidableEq, Repr

/-- The OPEN parameters of 00_scope.md R6 and 10_state.md R40, R41, each with the spec's default. A list
of initial bytes gives the first cells of its memory; the cells after its end are 0, the default.
Safe: a claim about `load` holds for every value of these. DESIGN CHOICE, log entries 3, 4, 5. -/
structure LaunchParams where
  aInit : Byte := 0x00#8
  xInit : Byte := 0x00#8
  yInit : Byte := 0x00#8
  ramInit : List Byte := []
  prgRamInit : List Byte := []
  /-- Initial CHR RAM; not used when the cartridge has a CHR ROM bank. -/
  chrInit : List Byte := []
  vramInit : List Byte := []
  paletteInit : List Byte := []
  oamInit : List Byte := []
  secondaryOamInit : List Byte := []
  /-- Bits 7 to 1 of `CTRL_HIGH_BITS`, default 0x40; its bit 0 must be 0. -/
  ctrlHighBits : BitVec 7 := 0x20#7
  deriving DecidableEq, Repr

end Sys2Proof.Config
end

