-- ==== Sys2Proof/Syntax.lean ====
section
/-! DEFINITION. The instruction set as syntax: one constructor for each of the 256 rows of
spec/opcode_table.json (30_encoding.md R120 for the 151 documented opcode bytes, R121 for the 105
illegal ones). The constructor's name is the row's mnemonic with its addressing mode (R102 to R114);
the row's opcode byte stands beside it. An operand is kept whole, as the rule of its mode takes it
(30_encoding.md R116): one byte (an immediate, a zero-page address or a displacement) or one 16-bit
word whose low byte comes first. -/

namespace Sys2Proof

/-- One instruction of the machine. -/
inductive Instr where
  -- Load, store and register transfer (40_load_store_transfer.md).
  | ldaIndX (b : Byte)  -- A1
  | ldaZp (b : Byte)  -- A5
  | ldaImm (b : Byte)  -- A9
  | ldaAbs (w : Word)  -- AD
  | ldaIndY (b : Byte)  -- B1
  | ldaZpX (b : Byte)  -- B5
  | ldaAbsY (w : Word)  -- B9
  | ldaAbsX (w : Word)  -- BD
  | ldxImm (b : Byte)  -- A2
  | ldxZp (b : Byte)  -- A6
  | ldxAbs (w : Word)  -- AE
  | ldxZpY (b : Byte)  -- B6
  | ldxAbsY (w : Word)  -- BE
  | ldyImm (b : Byte)  -- A0
  | ldyZp (b : Byte)  -- A4
  | ldyAbs (w : Word)  -- AC
  | ldyZpX (b : Byte)  -- B4
  | ldyAbsX (w : Word)  -- BC
  | staIndX (b : Byte)  -- 81
  | staZp (b : Byte)  -- 85
  | staAbs (w : Word)  -- 8D
  | staIndY (b : Byte)  -- 91
  | staZpX (b : Byte)  -- 95
  | staAbsY (w : Word)  -- 99
  | staAbsX (w : Word)  -- 9D
  | stxZp (b : Byte)  -- 86
  | stxAbs (w : Word)  -- 8E
  | stxZpY (b : Byte)  -- 96
  | styZp (b : Byte)  -- 84
  | styAbs (w : Word)  -- 8C
  | styZpX (b : Byte)  -- 94
  | tax  -- AA
  | tay  -- A8
  | txa  -- 8A
  | tya  -- 98
  | tsx  -- BA
  | txs  -- 9A
  -- Arithmetic, logic, compare, increment, decrement (41_arithmetic_logic.md).
  | adcIndX (b : Byte)  -- 61
  | adcZp (b : Byte)  -- 65
  | adcImm (b : Byte)  -- 69
  | adcAbs (w : Word)  -- 6D
  | adcIndY (b : Byte)  -- 71
  | adcZpX (b : Byte)  -- 75
  | adcAbsY (w : Word)  -- 79
  | adcAbsX (w : Word)  -- 7D
  | sbcIndX (b : Byte)  -- E1
  | sbcZp (b : Byte)  -- E5
  | sbcImm (b : Byte)  -- E9
  | sbcAbs (w : Word)  -- ED
  | sbcIndY (b : Byte)  -- F1
  | sbcZpX (b : Byte)  -- F5
  | sbcAbsY (w : Word)  -- F9
  | sbcAbsX (w : Word)  -- FD
  | andIndX (b : Byte)  -- 21
  | andZp (b : Byte)  -- 25
  | andImm (b : Byte)  -- 29
  | andAbs (w : Word)  -- 2D
  | andIndY (b : Byte)  -- 31
  | andZpX (b : Byte)  -- 35
  | andAbsY (w : Word)  -- 39
  | andAbsX (w : Word)  -- 3D
  | oraIndX (b : Byte)  -- 01
  | oraZp (b : Byte)  -- 05
  | oraImm (b : Byte)  -- 09
  | oraAbs (w : Word)  -- 0D
  | oraIndY (b : Byte)  -- 11
  | oraZpX (b : Byte)  -- 15
  | oraAbsY (w : Word)  -- 19
  | oraAbsX (w : Word)  -- 1D
  | eorIndX (b : Byte)  -- 41
  | eorZp (b : Byte)  -- 45
  | eorImm (b : Byte)  -- 49
  | eorAbs (w : Word)  -- 4D
  | eorIndY (b : Byte)  -- 51
  | eorZpX (b : Byte)  -- 55
  | eorAbsY (w : Word)  -- 59
  | eorAbsX (w : Word)  -- 5D
  | cmpIndX (b : Byte)  -- C1
  | cmpZp (b : Byte)  -- C5
  | cmpImm (b : Byte)  -- C9
  | cmpAbs (w : Word)  -- CD
  | cmpIndY (b : Byte)  -- D1
  | cmpZpX (b : Byte)  -- D5
  | cmpAbsY (w : Word)  -- D9
  | cmpAbsX (w : Word)  -- DD
  | cpxImm (b : Byte)  -- E0
  | cpxZp (b : Byte)  -- E4
  | cpxAbs (w : Word)  -- EC
  | cpyImm (b : Byte)  -- C0
  | cpyZp (b : Byte)  -- C4
  | cpyAbs (w : Word)  -- CC
  | bitZp (b : Byte)  -- 24
  | bitAbs (w : Word)  -- 2C
  | incZp (b : Byte)  -- E6
  | incAbs (w : Word)  -- EE
  | incZpX (b : Byte)  -- F6
  | incAbsX (w : Word)  -- FE
  | decZp (b : Byte)  -- C6
  | decAbs (w : Word)  -- CE
  | decZpX (b : Byte)  -- D6
  | decAbsX (w : Word)  -- DE
  | inx  -- E8
  | iny  -- C8
  | dex  -- CA
  | dey  -- 88
  -- Shift and rotate (42_shift_rotate.md).
  | aslZp (b : Byte)  -- 06
  | aslAcc  -- 0A
  | aslAbs (w : Word)  -- 0E
  | aslZpX (b : Byte)  -- 16
  | aslAbsX (w : Word)  -- 1E
  | lsrZp (b : Byte)  -- 46
  | lsrAcc  -- 4A
  | lsrAbs (w : Word)  -- 4E
  | lsrZpX (b : Byte)  -- 56
  | lsrAbsX (w : Word)  -- 5E
  | rolZp (b : Byte)  -- 26
  | rolAcc  -- 2A
  | rolAbs (w : Word)  -- 2E
  | rolZpX (b : Byte)  -- 36
  | rolAbsX (w : Word)  -- 3E
  | rorZp (b : Byte)  -- 66
  | rorAcc  -- 6A
  | rorAbs (w : Word)  -- 6E
  | rorZpX (b : Byte)  -- 76
  | rorAbsX (w : Word)  -- 7E
  -- Jumps, calls, returns and branches (43_control_flow.md).
  | jmpAbs (w : Word)  -- 4C
  | jmpInd (w : Word)  -- 6C
  | jsr (w : Word)  -- 20
  | rts  -- 60
  | bcc (b : Byte)  -- 90
  | bcs (b : Byte)  -- B0
  | beq (b : Byte)  -- F0
  | bne (b : Byte)  -- D0
  | bmi (b : Byte)  -- 30
  | bpl (b : Byte)  -- 10
  | bvc (b : Byte)  -- 50
  | bvs (b : Byte)  -- 70
  -- Stack, flag, system and no-operation (44_stack_flag_system.md).
  | pha  -- 48
  | pla  -- 68
  | php  -- 08
  | plp  -- 28
  | clc  -- 18
  | sec  -- 38
  | cli  -- 58
  | sei  -- 78
  | clv  -- B8
  | brk  -- 00
  | rti  -- 40
  | cld  -- D8
  | sed  -- F8
  | nop  -- EA
  -- The illegal opcode bytes: each is a row ILLEGAL_xx whose only effect is the fault of 60_exceptions.md R251.
  | illegal02
  | illegal03
  | illegal04
  | illegal07
  | illegal0B
  | illegal0C
  | illegal0F
  | illegal12
  | illegal13
  | illegal14
  | illegal17
  | illegal1A
  | illegal1B
  | illegal1C
  | illegal1F
  | illegal22
  | illegal23
  | illegal27
  | illegal2B
  | illegal2F
  | illegal32
  | illegal33
  | illegal34
  | illegal37
  | illegal3A
  | illegal3B
  | illegal3C
  | illegal3F
  | illegal42
  | illegal43
  | illegal44
  | illegal47
  | illegal4B
  | illegal4F
  | illegal52
  | illegal53
  | illegal54
  | illegal57
  | illegal5A
  | illegal5B
  | illegal5C
  | illegal5F
  | illegal62
  | illegal63
  | illegal64
  | illegal67
  | illegal6B
  | illegal6F
  | illegal72
  | illegal73
  | illegal74
  | illegal77
  | illegal7A
  | illegal7B
  | illegal7C
  | illegal7F
  | illegal80
  | illegal82
  | illegal83
  | illegal87
  | illegal89
  | illegal8B
  | illegal8F
  | illegal92
  | illegal93
  | illegal97
  | illegal9B
  | illegal9C
  | illegal9E
  | illegal9F
  | illegalA3
  | illegalA7
  | illegalAB
  | illegalAF
  | illegalB2
  | illegalB3
  | illegalB7
  | illegalBB
  | illegalBF
  | illegalC2
  | illegalC3
  | illegalC7
  | illegalCB
  | illegalCF
  | illegalD2
  | illegalD3
  | illegalD4
  | illegalD7
  | illegalDA
  | illegalDB
  | illegalDC
  | illegalDF
  | illegalE2
  | illegalE3
  | illegalE7
  | illegalEB
  | illegalEF
  | illegalF2
  | illegalF3
  | illegalF4
  | illegalF7
  | illegalFA
  | illegalFB
  | illegalFC
  | illegalFF
  deriving DecidableEq, Repr

end Sys2Proof
end

