-- ==== Sys2Proof/WellFormed.lean ====
section
/-! DEFINITION. Which terms are well-formed instructions. Every operand fits its field by its type, and
a constructor has exactly the operand its row has, so the one check left is that the row is a
documented instruction: 30_encoding.md R118 says that 151 opcode bytes select an instruction and that
the remaining 105 do not. -/

namespace Sys2Proof

/-- True for the 105 rows of 30_encoding.md R121. -/
def Instr.isIllegal : Instr → Bool
  | .ldaIndX _ => false
  | .ldaZp _ => false
  | .ldaImm _ => false
  | .ldaAbs _ => false
  | .ldaIndY _ => false
  | .ldaZpX _ => false
  | .ldaAbsY _ => false
  | .ldaAbsX _ => false
  | .ldxImm _ => false
  | .ldxZp _ => false
  | .ldxAbs _ => false
  | .ldxZpY _ => false
  | .ldxAbsY _ => false
  | .ldyImm _ => false
  | .ldyZp _ => false
  | .ldyAbs _ => false
  | .ldyZpX _ => false
  | .ldyAbsX _ => false
  | .staIndX _ => false
  | .staZp _ => false
  | .staAbs _ => false
  | .staIndY _ => false
  | .staZpX _ => false
  | .staAbsY _ => false
  | .staAbsX _ => false
  | .stxZp _ => false
  | .stxAbs _ => false
  | .stxZpY _ => false
  | .styZp _ => false
  | .styAbs _ => false
  | .styZpX _ => false
  | .tax => false
  | .tay => false
  | .txa => false
  | .tya => false
  | .tsx => false
  | .txs => false
  | .adcIndX _ => false
  | .adcZp _ => false
  | .adcImm _ => false
  | .adcAbs _ => false
  | .adcIndY _ => false
  | .adcZpX _ => false
  | .adcAbsY _ => false
  | .adcAbsX _ => false
  | .sbcIndX _ => false
  | .sbcZp _ => false
  | .sbcImm _ => false
  | .sbcAbs _ => false
  | .sbcIndY _ => false
  | .sbcZpX _ => false
  | .sbcAbsY _ => false
  | .sbcAbsX _ => false
  | .andIndX _ => false
  | .andZp _ => false
  | .andImm _ => false
  | .andAbs _ => false
  | .andIndY _ => false
  | .andZpX _ => false
  | .andAbsY _ => false
  | .andAbsX _ => false
  | .oraIndX _ => false
  | .oraZp _ => false
  | .oraImm _ => false
  | .oraAbs _ => false
  | .oraIndY _ => false
  | .oraZpX _ => false
  | .oraAbsY _ => false
  | .oraAbsX _ => false
  | .eorIndX _ => false
  | .eorZp _ => false
  | .eorImm _ => false
  | .eorAbs _ => false
  | .eorIndY _ => false
  | .eorZpX _ => false
  | .eorAbsY _ => false
  | .eorAbsX _ => false
  | .cmpIndX _ => false
  | .cmpZp _ => false
  | .cmpImm _ => false
  | .cmpAbs _ => false
  | .cmpIndY _ => false
  | .cmpZpX _ => false
  | .cmpAbsY _ => false
  | .cmpAbsX _ => false
  | .cpxImm _ => false
  | .cpxZp _ => false
  | .cpxAbs _ => false
  | .cpyImm _ => false
  | .cpyZp _ => false
  | .cpyAbs _ => false
  | .bitZp _ => false
  | .bitAbs _ => false
  | .incZp _ => false
  | .incAbs _ => false
  | .incZpX _ => false
  | .incAbsX _ => false
  | .decZp _ => false
  | .decAbs _ => false
  | .decZpX _ => false
  | .decAbsX _ => false
  | .inx => false
  | .iny => false
  | .dex => false
  | .dey => false
  | .aslZp _ => false
  | .aslAcc => false
  | .aslAbs _ => false
  | .aslZpX _ => false
  | .aslAbsX _ => false
  | .lsrZp _ => false
  | .lsrAcc => false
  | .lsrAbs _ => false
  | .lsrZpX _ => false
  | .lsrAbsX _ => false
  | .rolZp _ => false
  | .rolAcc => false
  | .rolAbs _ => false
  | .rolZpX _ => false
  | .rolAbsX _ => false
  | .rorZp _ => false
  | .rorAcc => false
  | .rorAbs _ => false
  | .rorZpX _ => false
  | .rorAbsX _ => false
  | .jmpAbs _ => false
  | .jmpInd _ => false
  | .jsr _ => false
  | .rts => false
  | .bcc _ => false
  | .bcs _ => false
  | .beq _ => false
  | .bne _ => false
  | .bmi _ => false
  | .bpl _ => false
  | .bvc _ => false
  | .bvs _ => false
  | .pha => false
  | .pla => false
  | .php => false
  | .plp => false
  | .clc => false
  | .sec => false
  | .cli => false
  | .sei => false
  | .clv => false
  | .brk => false
  | .rti => false
  | .cld => false
  | .sed => false
  | .nop => false
  | .illegal02 => true
  | .illegal03 => true
  | .illegal04 => true
  | .illegal07 => true
  | .illegal0B => true
  | .illegal0C => true
  | .illegal0F => true
  | .illegal12 => true
  | .illegal13 => true
  | .illegal14 => true
  | .illegal17 => true
  | .illegal1A => true
  | .illegal1B => true
  | .illegal1C => true
  | .illegal1F => true
  | .illegal22 => true
  | .illegal23 => true
  | .illegal27 => true
  | .illegal2B => true
  | .illegal2F => true
  | .illegal32 => true
  | .illegal33 => true
  | .illegal34 => true
  | .illegal37 => true
  | .illegal3A => true
  | .illegal3B => true
  | .illegal3C => true
  | .illegal3F => true
  | .illegal42 => true
  | .illegal43 => true
  | .illegal44 => true
  | .illegal47 => true
  | .illegal4B => true
  | .illegal4F => true
  | .illegal52 => true
  | .illegal53 => true
  | .illegal54 => true
  | .illegal57 => true
  | .illegal5A => true
  | .illegal5B => true
  | .illegal5C => true
  | .illegal5F => true
  | .illegal62 => true
  | .illegal63 => true
  | .illegal64 => true
  | .illegal67 => true
  | .illegal6B => true
  | .illegal6F => true
  | .illegal72 => true
  | .illegal73 => true
  | .illegal74 => true
  | .illegal77 => true
  | .illegal7A => true
  | .illegal7B => true
  | .illegal7C => true
  | .illegal7F => true
  | .illegal80 => true
  | .illegal82 => true
  | .illegal83 => true
  | .illegal87 => true
  | .illegal89 => true
  | .illegal8B => true
  | .illegal8F => true
  | .illegal92 => true
  | .illegal93 => true
  | .illegal97 => true
  | .illegal9B => true
  | .illegal9C => true
  | .illegal9E => true
  | .illegal9F => true
  | .illegalA3 => true
  | .illegalA7 => true
  | .illegalAB => true
  | .illegalAF => true
  | .illegalB2 => true
  | .illegalB3 => true
  | .illegalB7 => true
  | .illegalBB => true
  | .illegalBF => true
  | .illegalC2 => true
  | .illegalC3 => true
  | .illegalC7 => true
  | .illegalCB => true
  | .illegalCF => true
  | .illegalD2 => true
  | .illegalD3 => true
  | .illegalD4 => true
  | .illegalD7 => true
  | .illegalDA => true
  | .illegalDB => true
  | .illegalDC => true
  | .illegalDF => true
  | .illegalE2 => true
  | .illegalE3 => true
  | .illegalE7 => true
  | .illegalEB => true
  | .illegalEF => true
  | .illegalF2 => true
  | .illegalF3 => true
  | .illegalF4 => true
  | .illegalF7 => true
  | .illegalFA => true
  | .illegalFB => true
  | .illegalFC => true
  | .illegalFF => true

/-- A well-formed instruction is one of the 151 documented ones (30_encoding.md R118). -/
def Instr.wellFormed (i : Instr) : Bool := !i.isIllegal

end Sys2Proof
end

