-- ==== Sys2Proof/Decode.lean ====
section
/-! DEFINITION. The decoder, total on any bytes, and after it the encoder (30_encoding.md R115 to
R121). The decoder is the spec's own shape: an array of 256 entries indexed by the opcode byte. -/

namespace Sys2Proof

/-- The operand bytes an opcode's row takes (30_encoding.md R115): format F1 takes none, F2 one byte,
F3 a 16-bit word. The function builds the instruction from them. -/
inductive OpcodeForm where
  | f1 (i : Instr)
  | f2 (build : Byte → Instr)
  | f3 (build : Word → Instr)

/-- Opcode bytes 00 to 0F, as row 0x of the 16 by 16 map under 30_encoding.md R120. -/
def opcodeRow0 : List OpcodeForm :=
  [.f1 .brk, .f2 .oraIndX, .f1 .illegal02, .f1 .illegal03,
   .f1 .illegal04, .f2 .oraZp, .f2 .aslZp, .f1 .illegal07,
   .f1 .php, .f2 .oraImm, .f1 .aslAcc, .f1 .illegal0B,
   .f1 .illegal0C, .f3 .oraAbs, .f3 .aslAbs, .f1 .illegal0F]

/-- Opcode bytes 10 to 1F, as row 1x of the 16 by 16 map under 30_encoding.md R120. -/
def opcodeRow1 : List OpcodeForm :=
  [.f2 .bpl, .f2 .oraIndY, .f1 .illegal12, .f1 .illegal13,
   .f1 .illegal14, .f2 .oraZpX, .f2 .aslZpX, .f1 .illegal17,
   .f1 .clc, .f3 .oraAbsY, .f1 .illegal1A, .f1 .illegal1B,
   .f1 .illegal1C, .f3 .oraAbsX, .f3 .aslAbsX, .f1 .illegal1F]

/-- Opcode bytes 20 to 2F, as row 2x of the 16 by 16 map under 30_encoding.md R120. -/
def opcodeRow2 : List OpcodeForm :=
  [.f3 .jsr, .f2 .andIndX, .f1 .illegal22, .f1 .illegal23,
   .f2 .bitZp, .f2 .andZp, .f2 .rolZp, .f1 .illegal27,
   .f1 .plp, .f2 .andImm, .f1 .rolAcc, .f1 .illegal2B,
   .f3 .bitAbs, .f3 .andAbs, .f3 .rolAbs, .f1 .illegal2F]

/-- Opcode bytes 30 to 3F, as row 3x of the 16 by 16 map under 30_encoding.md R120. -/
def opcodeRow3 : List OpcodeForm :=
  [.f2 .bmi, .f2 .andIndY, .f1 .illegal32, .f1 .illegal33,
   .f1 .illegal34, .f2 .andZpX, .f2 .rolZpX, .f1 .illegal37,
   .f1 .sec, .f3 .andAbsY, .f1 .illegal3A, .f1 .illegal3B,
   .f1 .illegal3C, .f3 .andAbsX, .f3 .rolAbsX, .f1 .illegal3F]

/-- Opcode bytes 40 to 4F, as row 4x of the 16 by 16 map under 30_encoding.md R120. -/
def opcodeRow4 : List OpcodeForm :=
  [.f1 .rti, .f2 .eorIndX, .f1 .illegal42, .f1 .illegal43,
   .f1 .illegal44, .f2 .eorZp, .f2 .lsrZp, .f1 .illegal47,
   .f1 .pha, .f2 .eorImm, .f1 .lsrAcc, .f1 .illegal4B,
   .f3 .jmpAbs, .f3 .eorAbs, .f3 .lsrAbs, .f1 .illegal4F]

/-- Opcode bytes 50 to 5F, as row 5x of the 16 by 16 map under 30_encoding.md R120. -/
def opcodeRow5 : List OpcodeForm :=
  [.f2 .bvc, .f2 .eorIndY, .f1 .illegal52, .f1 .illegal53,
   .f1 .illegal54, .f2 .eorZpX, .f2 .lsrZpX, .f1 .illegal57,
   .f1 .cli, .f3 .eorAbsY, .f1 .illegal5A, .f1 .illegal5B,
   .f1 .illegal5C, .f3 .eorAbsX, .f3 .lsrAbsX, .f1 .illegal5F]

/-- Opcode bytes 60 to 6F, as row 6x of the 16 by 16 map under 30_encoding.md R120. -/
def opcodeRow6 : List OpcodeForm :=
  [.f1 .rts, .f2 .adcIndX, .f1 .illegal62, .f1 .illegal63,
   .f1 .illegal64, .f2 .adcZp, .f2 .rorZp, .f1 .illegal67,
   .f1 .pla, .f2 .adcImm, .f1 .rorAcc, .f1 .illegal6B,
   .f3 .jmpInd, .f3 .adcAbs, .f3 .rorAbs, .f1 .illegal6F]

/-- Opcode bytes 70 to 7F, as row 7x of the 16 by 16 map under 30_encoding.md R120. -/
def opcodeRow7 : List OpcodeForm :=
  [.f2 .bvs, .f2 .adcIndY, .f1 .illegal72, .f1 .illegal73,
   .f1 .illegal74, .f2 .adcZpX, .f2 .rorZpX, .f1 .illegal77,
   .f1 .sei, .f3 .adcAbsY, .f1 .illegal7A, .f1 .illegal7B,
   .f1 .illegal7C, .f3 .adcAbsX, .f3 .rorAbsX, .f1 .illegal7F]

/-- Opcode bytes 80 to 8F, as row 8x of the 16 by 16 map under 30_encoding.md R120. -/
def opcodeRow8 : List OpcodeForm :=
  [.f1 .illegal80, .f2 .staIndX, .f1 .illegal82, .f1 .illegal83,
   .f2 .styZp, .f2 .staZp, .f2 .stxZp, .f1 .illegal87,
   .f1 .dey, .f1 .illegal89, .f1 .txa, .f1 .illegal8B,
   .f3 .styAbs, .f3 .staAbs, .f3 .stxAbs, .f1 .illegal8F]

/-- Opcode bytes 90 to 9F, as row 9x of the 16 by 16 map under 30_encoding.md R120. -/
def opcodeRow9 : List OpcodeForm :=
  [.f2 .bcc, .f2 .staIndY, .f1 .illegal92, .f1 .illegal93,
   .f2 .styZpX, .f2 .staZpX, .f2 .stxZpY, .f1 .illegal97,
   .f1 .tya, .f3 .staAbsY, .f1 .txs, .f1 .illegal9B,
   .f1 .illegal9C, .f3 .staAbsX, .f1 .illegal9E, .f1 .illegal9F]

/-- Opcode bytes A0 to AF, as row Ax of the 16 by 16 map under 30_encoding.md R120. -/
def opcodeRowA : List OpcodeForm :=
  [.f2 .ldyImm, .f2 .ldaIndX, .f2 .ldxImm, .f1 .illegalA3,
   .f2 .ldyZp, .f2 .ldaZp, .f2 .ldxZp, .f1 .illegalA7,
   .f1 .tay, .f2 .ldaImm, .f1 .tax, .f1 .illegalAB,
   .f3 .ldyAbs, .f3 .ldaAbs, .f3 .ldxAbs, .f1 .illegalAF]

/-- Opcode bytes B0 to BF, as row Bx of the 16 by 16 map under 30_encoding.md R120. -/
def opcodeRowB : List OpcodeForm :=
  [.f2 .bcs, .f2 .ldaIndY, .f1 .illegalB2, .f1 .illegalB3,
   .f2 .ldyZpX, .f2 .ldaZpX, .f2 .ldxZpY, .f1 .illegalB7,
   .f1 .clv, .f3 .ldaAbsY, .f1 .tsx, .f1 .illegalBB,
   .f3 .ldyAbsX, .f3 .ldaAbsX, .f3 .ldxAbsY, .f1 .illegalBF]

/-- Opcode bytes C0 to CF, as row Cx of the 16 by 16 map under 30_encoding.md R120. -/
def opcodeRowC : List OpcodeForm :=
  [.f2 .cpyImm, .f2 .cmpIndX, .f1 .illegalC2, .f1 .illegalC3,
   .f2 .cpyZp, .f2 .cmpZp, .f2 .decZp, .f1 .illegalC7,
   .f1 .iny, .f2 .cmpImm, .f1 .dex, .f1 .illegalCB,
   .f3 .cpyAbs, .f3 .cmpAbs, .f3 .decAbs, .f1 .illegalCF]

/-- Opcode bytes D0 to DF, as row Dx of the 16 by 16 map under 30_encoding.md R120. -/
def opcodeRowD : List OpcodeForm :=
  [.f2 .bne, .f2 .cmpIndY, .f1 .illegalD2, .f1 .illegalD3,
   .f1 .illegalD4, .f2 .cmpZpX, .f2 .decZpX, .f1 .illegalD7,
   .f1 .cld, .f3 .cmpAbsY, .f1 .illegalDA, .f1 .illegalDB,
   .f1 .illegalDC, .f3 .cmpAbsX, .f3 .decAbsX, .f1 .illegalDF]

/-- Opcode bytes E0 to EF, as row Ex of the 16 by 16 map under 30_encoding.md R120. -/
def opcodeRowE : List OpcodeForm :=
  [.f2 .cpxImm, .f2 .sbcIndX, .f1 .illegalE2, .f1 .illegalE3,
   .f2 .cpxZp, .f2 .sbcZp, .f2 .incZp, .f1 .illegalE7,
   .f1 .inx, .f2 .sbcImm, .f1 .nop, .f1 .illegalEB,
   .f3 .cpxAbs, .f3 .sbcAbs, .f3 .incAbs, .f1 .illegalEF]

/-- Opcode bytes F0 to FF, as row Fx of the 16 by 16 map under 30_encoding.md R120. -/
def opcodeRowF : List OpcodeForm :=
  [.f2 .beq, .f2 .sbcIndY, .f1 .illegalF2, .f1 .illegalF3,
   .f1 .illegalF4, .f2 .sbcZpX, .f2 .incZpX, .f1 .illegalF7,
   .f1 .sed, .f3 .sbcAbsY, .f1 .illegalFA, .f1 .illegalFB,
   .f1 .illegalFC, .f3 .sbcAbsX, .f3 .incAbsX, .f1 .illegalFF]

/-- The opcode table: 256 entries, one for each opcode byte (30_encoding.md R118, R120, R121). -/
def opcodeTable : List OpcodeForm :=
  opcodeRow0 ++ opcodeRow1 ++ opcodeRow2 ++ opcodeRow3 ++ opcodeRow4 ++ opcodeRow5 ++ opcodeRow6 ++
  opcodeRow7 ++ opcodeRow8 ++ opcodeRow9 ++ opcodeRowA ++ opcodeRowB ++ opcodeRowC ++ opcodeRowD ++
  opcodeRowE ++ opcodeRowF

/-- The row of an opcode byte. The table has 256 rows, so the default is never taken; it is the row of
the byte FF. -/
def opcodeForm (op : Byte) : OpcodeForm := opcodeTable.getD op.toNat (.f1 .illegalFF)

/-- The 16-bit operand of bytes 1 and 2: `byte1 | (byte2 << 8)` (30_encoding.md R116). -/
def operand16 (lo hi : Byte) : Word := hi ++ lo

/-- Why a byte sequence is no whole instruction: it ends too early. Every opcode byte itself has a row. -/
inductive DecodeError where
  /-- There is no opcode byte. -/
  | noBytes
  /-- The operand bytes of this opcode are not all there. -/
  | truncated (opcode : Byte)
  deriving DecidableEq, Repr

/-- What decoding a byte sequence gives: an instruction with the bytes after it, or a rejection. -/
inductive DecodeResult where
  | ok (i : Instr) (rest : List Byte)
  | rejected (e : DecodeError)
  deriving DecidableEq, Repr

/-- Reads one instruction from the front of a byte sequence. -/
def decode : List Byte → DecodeResult
  | [] => .rejected .noBytes
  | op :: rest =>
    match opcodeForm op, rest with
    | .f1 i, rest => .ok i rest
    | .f2 build, b :: rest => .ok (build b) rest
    | .f3 build, lo :: hi :: rest => .ok (build (operand16 lo hi)) rest
    | .f2 _, [] => .rejected (.truncated op)
    | .f3 _, [] => .rejected (.truncated op)
    | .f3 _, [_] => .rejected (.truncated op)

/-- The three bytes of an instruction whose bits are `w`, bit 0 the least significant bit of the first
byte; the bits from `nbits` up are 0. -/
def tableWordBytes (nbits w : Nat) : List Byte :=
  let v := w % 2 ^ nbits
  [BitVec.ofNat 8 v, BitVec.ofNat 8 (v / 2 ^ 8), BitVec.ofNat 8 (v / 2 ^ 16)]

/-- The instruction the decoder reads from a row of spec/opcode_table.json. -/
def decodeTableWord (nbits w : Nat) : Option Instr :=
  match decode (tableWordBytes nbits w) with
  | .ok i _ => some i
  | .rejected _ => none

/-- The low byte of an operand word: byte 1 of the instruction (30_encoding.md R115). -/
def operandLo (w : Word) : Byte := w.extractLsb' 0 8

/-- The high byte of an operand word: byte 2 of the instruction (30_encoding.md R115). -/
def operandHi (w : Word) : Byte := w.extractLsb' 8 8

/-- The bytes of an instruction in ascending address order (30_encoding.md R115, R120). -/
def encode : Instr → List Byte
  | .ldaIndX b => [0xA1#8, b]
  | .ldaZp b => [0xA5#8, b]
  | .ldaImm b => [0xA9#8, b]
  | .ldaAbs w => [0xAD#8, operandLo w, operandHi w]
  | .ldaIndY b => [0xB1#8, b]
  | .ldaZpX b => [0xB5#8, b]
  | .ldaAbsY w => [0xB9#8, operandLo w, operandHi w]
  | .ldaAbsX w => [0xBD#8, operandLo w, operandHi w]
  | .ldxImm b => [0xA2#8, b]
  | .ldxZp b => [0xA6#8, b]
  | .ldxAbs w => [0xAE#8, operandLo w, operandHi w]
  | .ldxZpY b => [0xB6#8, b]
  | .ldxAbsY w => [0xBE#8, operandLo w, operandHi w]
  | .ldyImm b => [0xA0#8, b]
  | .ldyZp b => [0xA4#8, b]
  | .ldyAbs w => [0xAC#8, operandLo w, operandHi w]
  | .ldyZpX b => [0xB4#8, b]
  | .ldyAbsX w => [0xBC#8, operandLo w, operandHi w]
  | .staIndX b => [0x81#8, b]
  | .staZp b => [0x85#8, b]
  | .staAbs w => [0x8D#8, operandLo w, operandHi w]
  | .staIndY b => [0x91#8, b]
  | .staZpX b => [0x95#8, b]
  | .staAbsY w => [0x99#8, operandLo w, operandHi w]
  | .staAbsX w => [0x9D#8, operandLo w, operandHi w]
  | .stxZp b => [0x86#8, b]
  | .stxAbs w => [0x8E#8, operandLo w, operandHi w]
  | .stxZpY b => [0x96#8, b]
  | .styZp b => [0x84#8, b]
  | .styAbs w => [0x8C#8, operandLo w, operandHi w]
  | .styZpX b => [0x94#8, b]
  | .tax => [0xAA#8]
  | .tay => [0xA8#8]
  | .txa => [0x8A#8]
  | .tya => [0x98#8]
  | .tsx => [0xBA#8]
  | .txs => [0x9A#8]
  | .adcIndX b => [0x61#8, b]
  | .adcZp b => [0x65#8, b]
  | .adcImm b => [0x69#8, b]
  | .adcAbs w => [0x6D#8, operandLo w, operandHi w]
  | .adcIndY b => [0x71#8, b]
  | .adcZpX b => [0x75#8, b]
  | .adcAbsY w => [0x79#8, operandLo w, operandHi w]
  | .adcAbsX w => [0x7D#8, operandLo w, operandHi w]
  | .sbcIndX b => [0xE1#8, b]
  | .sbcZp b => [0xE5#8, b]
  | .sbcImm b => [0xE9#8, b]
  | .sbcAbs w => [0xED#8, operandLo w, operandHi w]
  | .sbcIndY b => [0xF1#8, b]
  | .sbcZpX b => [0xF5#8, b]
  | .sbcAbsY w => [0xF9#8, operandLo w, operandHi w]
  | .sbcAbsX w => [0xFD#8, operandLo w, operandHi w]
  | .andIndX b => [0x21#8, b]
  | .andZp b => [0x25#8, b]
  | .andImm b => [0x29#8, b]
  | .andAbs w => [0x2D#8, operandLo w, operandHi w]
  | .andIndY b => [0x31#8, b]
  | .andZpX b => [0x35#8, b]
  | .andAbsY w => [0x39#8, operandLo w, operandHi w]
  | .andAbsX w => [0x3D#8, operandLo w, operandHi w]
  | .oraIndX b => [0x01#8, b]
  | .oraZp b => [0x05#8, b]
  | .oraImm b => [0x09#8, b]
  | .oraAbs w => [0x0D#8, operandLo w, operandHi w]
  | .oraIndY b => [0x11#8, b]
  | .oraZpX b => [0x15#8, b]
  | .oraAbsY w => [0x19#8, operandLo w, operandHi w]
  | .oraAbsX w => [0x1D#8, operandLo w, operandHi w]
  | .eorIndX b => [0x41#8, b]
  | .eorZp b => [0x45#8, b]
  | .eorImm b => [0x49#8, b]
  | .eorAbs w => [0x4D#8, operandLo w, operandHi w]
  | .eorIndY b => [0x51#8, b]
  | .eorZpX b => [0x55#8, b]
  | .eorAbsY w => [0x59#8, operandLo w, operandHi w]
  | .eorAbsX w => [0x5D#8, operandLo w, operandHi w]
  | .cmpIndX b => [0xC1#8, b]
  | .cmpZp b => [0xC5#8, b]
  | .cmpImm b => [0xC9#8, b]
  | .cmpAbs w => [0xCD#8, operandLo w, operandHi w]
  | .cmpIndY b => [0xD1#8, b]
  | .cmpZpX b => [0xD5#8, b]
  | .cmpAbsY w => [0xD9#8, operandLo w, operandHi w]
  | .cmpAbsX w => [0xDD#8, operandLo w, operandHi w]
  | .cpxImm b => [0xE0#8, b]
  | .cpxZp b => [0xE4#8, b]
  | .cpxAbs w => [0xEC#8, operandLo w, operandHi w]
  | .cpyImm b => [0xC0#8, b]
  | .cpyZp b => [0xC4#8, b]
  | .cpyAbs w => [0xCC#8, operandLo w, operandHi w]
  | .bitZp b => [0x24#8, b]
  | .bitAbs w => [0x2C#8, operandLo w, operandHi w]
  | .incZp b => [0xE6#8, b]
  | .incAbs w => [0xEE#8, operandLo w, operandHi w]
  | .incZpX b => [0xF6#8, b]
  | .incAbsX w => [0xFE#8, operandLo w, operandHi w]
  | .decZp b => [0xC6#8, b]
  | .decAbs w => [0xCE#8, operandLo w, operandHi w]
  | .decZpX b => [0xD6#8, b]
  | .decAbsX w => [0xDE#8, operandLo w, operandHi w]
  | .inx => [0xE8#8]
  | .iny => [0xC8#8]
  | .dex => [0xCA#8]
  | .dey => [0x88#8]
  | .aslZp b => [0x06#8, b]
  | .aslAcc => [0x0A#8]
  | .aslAbs w => [0x0E#8, operandLo w, operandHi w]
  | .aslZpX b => [0x16#8, b]
  | .aslAbsX w => [0x1E#8, operandLo w, operandHi w]
  | .lsrZp b => [0x46#8, b]
  | .lsrAcc => [0x4A#8]
  | .lsrAbs w => [0x4E#8, operandLo w, operandHi w]
  | .lsrZpX b => [0x56#8, b]
  | .lsrAbsX w => [0x5E#8, operandLo w, operandHi w]
  | .rolZp b => [0x26#8, b]
  | .rolAcc => [0x2A#8]
  | .rolAbs w => [0x2E#8, operandLo w, operandHi w]
  | .rolZpX b => [0x36#8, b]
  | .rolAbsX w => [0x3E#8, operandLo w, operandHi w]
  | .rorZp b => [0x66#8, b]
  | .rorAcc => [0x6A#8]
  | .rorAbs w => [0x6E#8, operandLo w, operandHi w]
  | .rorZpX b => [0x76#8, b]
  | .rorAbsX w => [0x7E#8, operandLo w, operandHi w]
  | .jmpAbs w => [0x4C#8, operandLo w, operandHi w]
  | .jmpInd w => [0x6C#8, operandLo w, operandHi w]
  | .jsr w => [0x20#8, operandLo w, operandHi w]
  | .rts => [0x60#8]
  | .bcc b => [0x90#8, b]
  | .bcs b => [0xB0#8, b]
  | .beq b => [0xF0#8, b]
  | .bne b => [0xD0#8, b]
  | .bmi b => [0x30#8, b]
  | .bpl b => [0x10#8, b]
  | .bvc b => [0x50#8, b]
  | .bvs b => [0x70#8, b]
  | .pha => [0x48#8]
  | .pla => [0x68#8]
  | .php => [0x08#8]
  | .plp => [0x28#8]
  | .clc => [0x18#8]
  | .sec => [0x38#8]
  | .cli => [0x58#8]
  | .sei => [0x78#8]
  | .clv => [0xB8#8]
  | .brk => [0x00#8]
  | .rti => [0x40#8]
  | .cld => [0xD8#8]
  | .sed => [0xF8#8]
  | .nop => [0xEA#8]
  | .illegal02 => [0x02#8]
  | .illegal03 => [0x03#8]
  | .illegal04 => [0x04#8]
  | .illegal07 => [0x07#8]
  | .illegal0B => [0x0B#8]
  | .illegal0C => [0x0C#8]
  | .illegal0F => [0x0F#8]
  | .illegal12 => [0x12#8]
  | .illegal13 => [0x13#8]
  | .illegal14 => [0x14#8]
  | .illegal17 => [0x17#8]
  | .illegal1A => [0x1A#8]
  | .illegal1B => [0x1B#8]
  | .illegal1C => [0x1C#8]
  | .illegal1F => [0x1F#8]
  | .illegal22 => [0x22#8]
  | .illegal23 => [0x23#8]
  | .illegal27 => [0x27#8]
  | .illegal2B => [0x2B#8]
  | .illegal2F => [0x2F#8]
  | .illegal32 => [0x32#8]
  | .illegal33 => [0x33#8]
  | .illegal34 => [0x34#8]
  | .illegal37 => [0x37#8]
  | .illegal3A => [0x3A#8]
  | .illegal3B => [0x3B#8]
  | .illegal3C => [0x3C#8]
  | .illegal3F => [0x3F#8]
  | .illegal42 => [0x42#8]
  | .illegal43 => [0x43#8]
  | .illegal44 => [0x44#8]
  | .illegal47 => [0x47#8]
  | .illegal4B => [0x4B#8]
  | .illegal4F => [0x4F#8]
  | .illegal52 => [0x52#8]
  | .illegal53 => [0x53#8]
  | .illegal54 => [0x54#8]
  | .illegal57 => [0x57#8]
  | .illegal5A => [0x5A#8]
  | .illegal5B => [0x5B#8]
  | .illegal5C => [0x5C#8]
  | .illegal5F => [0x5F#8]
  | .illegal62 => [0x62#8]
  | .illegal63 => [0x63#8]
  | .illegal64 => [0x64#8]
  | .illegal67 => [0x67#8]
  | .illegal6B => [0x6B#8]
  | .illegal6F => [0x6F#8]
  | .illegal72 => [0x72#8]
  | .illegal73 => [0x73#8]
  | .illegal74 => [0x74#8]
  | .illegal77 => [0x77#8]
  | .illegal7A => [0x7A#8]
  | .illegal7B => [0x7B#8]
  | .illegal7C => [0x7C#8]
  | .illegal7F => [0x7F#8]
  | .illegal80 => [0x80#8]
  | .illegal82 => [0x82#8]
  | .illegal83 => [0x83#8]
  | .illegal87 => [0x87#8]
  | .illegal89 => [0x89#8]
  | .illegal8B => [0x8B#8]
  | .illegal8F => [0x8F#8]
  | .illegal92 => [0x92#8]
  | .illegal93 => [0x93#8]
  | .illegal97 => [0x97#8]
  | .illegal9B => [0x9B#8]
  | .illegal9C => [0x9C#8]
  | .illegal9E => [0x9E#8]
  | .illegal9F => [0x9F#8]
  | .illegalA3 => [0xA3#8]
  | .illegalA7 => [0xA7#8]
  | .illegalAB => [0xAB#8]
  | .illegalAF => [0xAF#8]
  | .illegalB2 => [0xB2#8]
  | .illegalB3 => [0xB3#8]
  | .illegalB7 => [0xB7#8]
  | .illegalBB => [0xBB#8]
  | .illegalBF => [0xBF#8]
  | .illegalC2 => [0xC2#8]
  | .illegalC3 => [0xC3#8]
  | .illegalC7 => [0xC7#8]
  | .illegalCB => [0xCB#8]
  | .illegalCF => [0xCF#8]
  | .illegalD2 => [0xD2#8]
  | .illegalD3 => [0xD3#8]
  | .illegalD4 => [0xD4#8]
  | .illegalD7 => [0xD7#8]
  | .illegalDA => [0xDA#8]
  | .illegalDB => [0xDB#8]
  | .illegalDC => [0xDC#8]
  | .illegalDF => [0xDF#8]
  | .illegalE2 => [0xE2#8]
  | .illegalE3 => [0xE3#8]
  | .illegalE7 => [0xE7#8]
  | .illegalEB => [0xEB#8]
  | .illegalEF => [0xEF#8]
  | .illegalF2 => [0xF2#8]
  | .illegalF3 => [0xF3#8]
  | .illegalF4 => [0xF4#8]
  | .illegalF7 => [0xF7#8]
  | .illegalFA => [0xFA#8]
  | .illegalFB => [0xFB#8]
  | .illegalFC => [0xFC#8]
  | .illegalFF => [0xFF#8]

end Sys2Proof
end

