-- ==== Sys2Proof/Machine/State.lean ====
section
/-! DEFINITION. The state of the machine as plain data: every piece of state of 10_state.md, with the
cartridge and the launch parameters of 00_scope.md R6, the reasons a step can stop, and the state right
after reset (10_state.md R40, R41; 70_reset_and_hazards.md R380). -/

namespace Sys2Proof.Machine

open Sys2Proof.Config (Mirroring)

/-- One memory array of 10_state.md R30, as the list of its cells that differ from what an unlisted cell
reads as. Its canonical form is `Memory.wf` (Machine/Memory.lean). -/
abbrev Memory := List Host.Cell

/-- What the cartridge fixes for the whole run (00_scope.md R6, 10_state.md R38). -/
structure Cartridge where
  /-- `PRG_BANKS`: 1 or 2. -/
  prgBanks : Nat
  /-- `CHR_BANKS`: 0 (CHR is RAM) or 1 (CHR is ROM). -/
  chrBanks : Nat
  mirroring : Mirroring
  /-- `MAPPER_ID`: only 0 is accepted. -/
  mapperId : Byte
  hasBattery : Bool
  hasTrainer : Bool
  /-- `PRG_ROM`: 16384 × `prgBanks` bytes, never written by a step. -/
  prgRom : Memory
  deriving DecidableEq, Repr

/-- One controller (10_state.md R31). -/
structure Controller where
  /-- `button_state`: bit 0 = A, B, Select, Start, Up, Down, Left, bit 7 = Right. -/
  buttons : Byte
  strobe : Bool
  /-- `shift_index`, 0 to 8. -/
  shiftIndex : Nat
  deriving DecidableEq, Repr

/-- One of the eight sprite units (10_state.md R32). -/
structure SpriteUnit where
  patLo : Byte
  patHi : Byte
  attr : Byte
  x : Byte
  deriving DecidableEq, Repr

/-- The PPU with its memories (10_state.md R30, R32 to R36). -/
structure Ppu where
  /-- PPUCTRL (10_state.md R33). -/
  ctrl : Byte
  /-- PPUMASK (10_state.md R34). -/
  mask : Byte
  /-- PPUSTATUS (10_state.md R35). -/
  status : Byte
  oamAddr : Byte
  /-- Current VRAM address (10_state.md R36). -/
  v : VramReg
  /-- Temporary VRAM address (10_state.md R36). -/
  t : VramReg
  fineX : BitVec 3
  writeToggle : Bool
  readBuffer : Byte
  /-- -1 (pre-render) to 260. -/
  scanline : Int
  /-- 0 to 340. -/
  dot : Nat
  ntLatch : Byte
  atLatch : BitVec 2
  patLoLatch : Byte
  patHiLatch : Byte
  bgPatLo : BitVec 16
  bgPatHi : BitVec 16
  bgAtLo : BitVec 16
  bgAtHi : BitVec 16
  /-- 0 to 8. -/
  spriteCount : Nat
  sprites : Vector SpriteUnit 8
  spriteZeroSelected : Bool
  nmiPending : Bool
  frameCount : Nat
  vram : Memory
  palette : Memory
  oam : Memory
  secondaryOam : Memory
  /-- Cell `framebuffer[y][x]` is at key 256 y + x. -/
  framebuffer : Memory
  deriving DecidableEq, Repr

/-- The whole machine. -/
structure State where
  a : Byte
  x : Byte
  y : Byte
  sp : Byte
  /-- Processor status (10_state.md R24). -/
  p : Byte
  pc : Word
  /-- Consumed CPU cycles (10_state.md R28). -/
  cycles : Nat
  ram : Memory
  prgRam : Memory
  chr : Memory
  cart : Cartridge
  ppu : Ppu
  /-- Controller 1, read at 0x4016. -/
  pad1 : Controller
  /-- Controller 2, read at 0x4017. -/
  pad2 : Controller
  /-- `frame_parity` of the System (60_exceptions.md R272): false is 0. -/
  frameParity : Bool
  /-- The level input `irq_line` (60_exceptions.md R253). -/
  irqLine : Bool
  /-- Bits 7 to 1 of `CTRL_HIGH_BITS` (60_exceptions.md R281). -/
  ctrlHighBits : BitVec 7
  deriving DecidableEq, Repr

/-- The reasons the machine stops with a fault: the spec names exactly one (60_exceptions.md R251,
R252). -/
inductive Fault where
  /-- `IllegalOpcode(byte, pc)`: raised by each of the 105 rows ILLEGAL_xx; `pc` is the address the
  opcode byte was fetched from. Safe: the spec ends the run here (60_exceptions.md R251). -/
  | illegalOpcode (byte : Byte) (pc : Word)
  deriving DecidableEq, Repr

/-- The reasons the model has no meaning for an instruction. -/
inductive Refusal where
  /-- An arm of `exec` that has no meaning yet; no arm is left so. Safe: the model stops. -/
  | notModelled (mnemonic : String)
  deriving DecidableEq, Repr

/-- The three outcomes of an instruction or a step. -/
abbrev Result := Host.Outcome State Fault Refusal

/-- A controller at power-on (10_state.md R41). -/
def Controller.powerOn : Controller := { buttons := 0x00#8, strobe := false, shiftIndex := 0 }

/-- A sprite unit at power-on (10_state.md R41). -/
def SpriteUnit.powerOn : SpriteUnit := { patLo := 0x00#8, patHi := 0x00#8, attr := 0x00#8, x := 0x00#8 }

/-- The PPU at power-on (10_state.md R41); its memories list no cell, so each reads as 0. -/
def Ppu.powerOn : Ppu :=
  { ctrl := 0x00#8, mask := 0x00#8, status := 0x00#8, oamAddr := 0x00#8,
    v := 0x0000#15, t := 0x0000#15, fineX := 0#3, writeToggle := false, readBuffer := 0x00#8,
    scanline := -1, dot := 0,
    ntLatch := 0x00#8, atLatch := 0#2, patLoLatch := 0x00#8, patHiLatch := 0x00#8,
    bgPatLo := 0x0000#16, bgPatHi := 0x0000#16, bgAtLo := 0x0000#16, bgAtHi := 0x0000#16,
    spriteCount := 0, sprites := Vector.replicate 8 SpriteUnit.powerOn, spriteZeroSelected := false,
    nmiPending := false, frameCount := 0,
    vram := [], palette := [], oam := [], secondaryOam := [], framebuffer := [] }

/-- The cartridge of `State.reset`. The spec gives the image no default (00_scope.md R6): this one has
one PRG bank with no listed byte, CHR RAM and Vertical mirroring. DESIGN CHOICE, unsafe, log entry 2. -/
def Cartridge.blank : Cartridge :=
  { prgBanks := 1, chrBanks := 0, mirroring := .vertical, mapperId := 0x00#8,
    hasBattery := false, hasTrainer := false, prgRom := [] }

/-- The machine right after reset: power-on followed by one `reset()` (70_reset_and_hazards.md R380),
every OPEN parameter at the spec's default and the cartridge `Cartridge.blank`. The reset vector of that
cartridge reads as 0x0000; `reset_is_softReset_of_powerOn` shows that this is the state the loader's
`softReset` gives. -/
def State.reset : State :=
  { a := 0x00#8, x := 0x00#8, y := 0x00#8, sp := 0xFD#8, p := 0x24#8, pc := 0x0000#16, cycles := 8,
    ram := [], prgRam := [], chr := [], cart := Cartridge.blank, ppu := Ppu.powerOn,
    pad1 := Controller.powerOn, pad2 := Controller.powerOn,
    frameParity := false, irqLine := false, ctrlHighBits := 0x20#7 }

end Sys2Proof.Machine
end

