-- ==== Sys2Proof/Machine/Bits.lean ====
section
/-! DEFINITION. The bit-field notation of 00_scope.md R7. -/

namespace Sys2Proof.Machine

/-- `hi(w) = w[15:8]`. -/
def hiByte (w : Word) : Byte := w.extractLsb' 8 8

/-- `lo(w) = w[7:0]`. -/
def loByte (w : Word) : Byte := w.extractLsb' 0 8

/-- `(hi << 8) | lo`: a 16-bit value whose low byte comes first in memory (20_memory.md R66). -/
def wordOf (lo hi : Byte) : Word := hi ++ lo

/-- `page(w) = w[15:8]`. -/
def page (w : Word) : Byte := hiByte w

/-- `zext_16(b)`. -/
def zext16 (b : Byte) : Word := b.setWidth 16

/-- `sext_16(b)`: `b` if `b < 0x80`, else `b + 0xFF00`. -/
def sext16 (b : Byte) : Word := b.signExtend 16

/-- Bit `i` of a value, as the spec's `v[i]`. -/
def bitOf {w : Nat} (v : BitVec w) (i : Nat) : Bool := v.getLsbD i

/-- The two-bit number `(hi << 1) | lo`. -/
def twoBits (hi lo : Bool) : BitVec 2 := BitVec.ofBool hi ++ BitVec.ofBool lo

/-- `reverse_bits_8(b)`: bit `j` of the result is bit `7 - j` of `b` (62_ppu.md R347). -/
def reverseBits8 (b : Byte) : Byte :=
  BitVec.ofBool (bitOf b 0) ++ BitVec.ofBool (bitOf b 1) ++ BitVec.ofBool (bitOf b 2) ++
  BitVec.ofBool (bitOf b 3) ++ BitVec.ofBool (bitOf b 4) ++ BitVec.ofBool (bitOf b 5) ++
  BitVec.ofBool (bitOf b 6) ++ BitVec.ofBool (bitOf b 7)

end Sys2Proof.Machine
end

