-- ==== Sys2Proof/Machine/Regs.lean ====
section
/-! DEFINITION. The one way to write each field of `State`: a named update per field. The lemmas of
Laws/State.lean say what each leaves alone. -/

namespace Sys2Proof.Machine

/-- A <- v (00_scope.md R8). -/
def State.setA (s : State) (v : Byte) : State := { s with a := v }

/-- X <- v. -/
def State.setX (s : State) (v : Byte) : State := { s with x := v }

/-- Y <- v. -/
def State.setY (s : State) (v : Byte) : State := { s with y := v }

/-- SP <- v (10_state.md R21). -/
def State.setSp (s : State) (v : Byte) : State := { s with sp := v }

/-- P <- v (10_state.md R24). -/
def State.setP (s : State) (v : Byte) : State := { s with p := v }

/-- PC <- v (10_state.md R22). -/
def State.setPc (s : State) (v : Word) : State := { s with pc := v }

/-- Sets the cycle counter (10_state.md R28). -/
def State.setCycles (s : State) (v : Nat) : State := { s with cycles := v }

/-- Replaces the work RAM. -/
def State.setRam (s : State) (v : Memory) : State := { s with ram := v }

/-- Replaces the cartridge RAM. -/
def State.setPrgRam (s : State) (v : Memory) : State := { s with prgRam := v }

/-- Replaces the CHR memory. -/
def State.setChr (s : State) (v : Memory) : State := { s with chr := v }

/-- Replaces the cartridge: only loading does this (10_state.md R38). -/
def State.setCart (s : State) (v : Cartridge) : State := { s with cart := v }

/-- Replaces the PPU. -/
def State.setPpu (s : State) (v : Ppu) : State := { s with ppu := v }

/-- Replaces controller 1. -/
def State.setPad1 (s : State) (v : Controller) : State := { s with pad1 := v }

/-- Replaces controller 2. -/
def State.setPad2 (s : State) (v : Controller) : State := { s with pad2 := v }

/-- Sets frame_parity (60_exceptions.md R272). -/
def State.setFrameParity (s : State) (v : Bool) : State := { s with frameParity := v }

/-- Drives the input irq_line (60_exceptions.md R253). -/
def State.setIrqLine (s : State) (v : Bool) : State := { s with irqLine := v }

/-- Fixes bits 7 to 1 of CTRL_HIGH_BITS (60_exceptions.md R281). -/
def State.setCtrlHighBits (s : State) (v : BitVec 7) : State := { s with ctrlHighBits := v }

/-- Adds to the cycle counter (10_state.md R28). -/
def State.addCycles (s : State) (n : Nat) : State := s.setCycles (s.cycles + n)

end Sys2Proof.Machine
end

