-- ==== Sys2Proof/Machine/Controllers.lean ====
section
/-! DEFINITION. The controller shift registers (60_exceptions.md R280, R281). -/

namespace Sys2Proof.Machine

/-- `write(value)`: `strobe <- (value[0] == 1); if strobe: shift_index <- 0` (60_exceptions.md R280). -/
def Controller.write (c : Controller) (v : Byte) : Controller :=
  { c with strobe := bitOf v 0, shiftIndex := if bitOf v 0 then 0 else c.shiftIndex }

/-- The bit `read()` returns in bit 0 (60_exceptions.md R281). -/
def Controller.readBit (c : Controller) : Bool :=
  if c.strobe then bitOf c.buttons 0
  else if c.shiftIndex < 8 then bitOf c.buttons c.shiftIndex
  else true

/-- The controller after `read()`: the index advances while the strobe is low and stays at 8
(60_exceptions.md R281). -/
def Controller.afterRead (c : Controller) : Controller :=
  if c.strobe then c
  else if c.shiftIndex < 8 then { c with shiftIndex := c.shiftIndex + 1 }
  else c

/-- The byte of a controller read: `CTRL_HIGH_BITS | bit` (60_exceptions.md R281). -/
def controllerByte (high : BitVec 7) (bit : Bool) : Byte := high ++ BitVec.ofBool bit

/-- A CPU read of 0x4016. -/
def readPad1 (s : State) : Byte × State :=
  (controllerByte s.ctrlHighBits s.pad1.readBit, s.setPad1 s.pad1.afterRead)

/-- A CPU read of 0x4017. -/
def readPad2 (s : State) : Byte × State :=
  (controllerByte s.ctrlHighBits s.pad2.readBit, s.setPad2 s.pad2.afterRead)

/-- A CPU write of 0x4016 reaches both controllers (20_memory.md R51, R57). -/
def writePads (v : Byte) (s : State) : State := (s.setPad1 (s.pad1.write v)).setPad2 (s.pad2.write v)

end Sys2Proof.Machine
end

