-- ==== Sys2Proof/Machine/Flags.lean ====
section
/-! DEFINITION. The flags of `P` (10_state.md R24 to R27) and every computation that sets them: the
arithmetic of 41_arithmetic_logic.md and the shifts of 42_shift_rotate.md. Each takes the old `P` and
gives the result with the new `P`. -/

namespace Sys2Proof.Machine

/-- The bits of `P` by name (10_state.md R24). -/
inductive Flag where
  | C | Z | I | D | B | U | V | N
  deriving DecidableEq, Repr

/-- The bit number of a flag (10_state.md R24). -/
def Flag.bit : Flag → Nat
  | .C => 0
  | .Z => 1
  | .I => 2
  | .D => 3
  | .B => 4
  | .U => 5
  | .V => 6
  | .N => 7

/-- The mask of a flag (10_state.md R24). -/
def Flag.mask (f : Flag) : Byte := 0x01#8 <<< f.bit

/-- Reads one flag of a status byte. -/
def getFlag (f : Flag) (p : Byte) : Bool := bitOf p f.bit

/-- Writes one flag of a status byte. -/
def setFlag (f : Flag) (b : Bool) (p : Byte) : Byte := if b then p ||| f.mask else p &&& ~~~f.mask

/-- `SetZN(v)`: `Z <- (v == 0); N <- v[7]` (10_state.md R26). -/
def setZN (v p : Byte) : Byte := setFlag .N (bitOf v 7) (setFlag .Z (decide (v = 0x00#8)) p)

/-- The status byte PHP and BRK push, `P | 0x30` (44_stack_flag_system.md R233, R240). -/
def pushedByInstruction (p : Byte) : Byte := p ||| 0x30#8

/-- The status byte NMI and IRQ push, `(P & 0xEF) | 0x20` (60_exceptions.md R255). -/
def pushedByInterrupt (p : Byte) : Byte := (p &&& 0xEF#8) ||| 0x20#8

/-- What PLP and RTI load from a pulled byte, `(byte & 0xCF) | 0x20` (44_stack_flag_system.md R230). -/
def pulledStatus (b : Byte) : Byte := (b &&& 0xCF#8) ||| 0x20#8

/-- A result with the status register after it. -/
structure Alu where
  val : Byte
  p : Byte
  deriving DecidableEq, Repr

/-- ADC: `s = A + m + C`, binary whatever `D` holds (41_arithmetic_logic.md R161, R163). -/
def adcAlu (a m p : Byte) : Alu :=
  let s := a.toNat + m.toNat + (getFlag .C p).toNat
  let r := BitVec.ofNat 8 s
  let v := bitOf (~~~(a ^^^ m) &&& (a ^^^ r)) 7
  { val := r, p := setZN r (setFlag .V v (setFlag .C (decide (255 < s)) p)) }

/-- SBC: ADC with the complement of the memory byte (41_arithmetic_logic.md R164). -/
def sbcAlu (a m p : Byte) : Alu := adcAlu a (m ^^^ 0xFF#8) p

/-- CMP, CPX, CPY: `C <- (r >= m)`, `SetZN((r - m) mod 256)` (41_arithmetic_logic.md R168 to R170). -/
def compareFlags (r m p : Byte) : Byte := setZN (r - m) (setFlag .C (decide (m.toNat ≤ r.toNat)) p)

/-- BIT: `Z` from `A & m`, `N` and `V` from bits 7 and 6 of `m` (41_arithmetic_logic.md R171). -/
def bitFlags (a m p : Byte) : Byte :=
  setFlag .V (bitOf m 6) (setFlag .N (bitOf m 7) (setFlag .Z (decide (a &&& m = 0x00#8)) p))

/-- A result that sets `Z` and `N` only. -/
def znAlu (r p : Byte) : Alu := { val := r, p := setZN r p }

/-- INC (41_arithmetic_logic.md R172). -/
def incAlu (v p : Byte) : Alu := znAlu (v + 0x01#8) p

/-- DEC (41_arithmetic_logic.md R173). -/
def decAlu (v p : Byte) : Alu := znAlu (v - 0x01#8) p

/-- A shift result: `C` is the bit shifted out, `Z` and `N` come from the result
(42_shift_rotate.md R190). -/
def shiftAlu (out : Bool) (r p : Byte) : Alu := { val := r, p := setZN r (setFlag .C out p) }

/-- ASL: `C <- v[7]; r = (v << 1) mod 256` (42_shift_rotate.md R191). -/
def aslAlu (v p : Byte) : Alu := shiftAlu (bitOf v 7) (v <<< 1) p

/-- LSR: `C <- v[0]; r = v >> 1` (42_shift_rotate.md R192). -/
def lsrAlu (v p : Byte) : Alu := shiftAlu (bitOf v 0) (v >>> 1) p

/-- ROL: the old carry enters bit 0 (42_shift_rotate.md R193). -/
def rolAlu (v p : Byte) : Alu :=
  shiftAlu (bitOf v 7) ((v <<< 1) ||| (if getFlag .C p then 0x01#8 else 0x00#8)) p

/-- ROR: the old carry enters bit 7 (42_shift_rotate.md R194). -/
def rorAlu (v p : Byte) : Alu :=
  shiftAlu (bitOf v 0) ((v >>> 1) ||| (if getFlag .C p then 0x80#8 else 0x00#8)) p

end Sys2Proof.Machine
end

