-- ==== Sys2Proof/Machine/Memory.lean ====
section
/-! DEFINITION. Reading and writing one memory array, and its canonical form. -/

namespace Sys2Proof.Machine

/-- What a cell that no pair lists reads as: 0, the default content of every memory of the spec
(10_state.md R40, R41). The content at power-on is OPEN there. DESIGN CHOICE, unsafe, log entry 4. -/
def unlistedByte : Byte := 0x00#8

/-- The byte in cell `k`. -/
def Memory.read : Memory → Nat → Byte
  | [], _ => unlistedByte
  | (j, v) :: m, k => if j = k then v else Memory.read m k

/-- The cell pair for `k` when `v` has to be listed. -/
def Memory.cell (k : Nat) (v : Byte) : Memory := if v = unlistedByte then [] else [(k, v)]

/-- Stores `v` in cell `k`, keeping the canonical form. -/
def Memory.write : Memory → Nat → Byte → Memory
  | [], k, v => Memory.cell k v
  | (j, w) :: m, k, v =>
    if k < j then Memory.cell k v ++ (j, w) :: m
    else if k = j then Memory.cell k v ++ m
    else (j, w) :: Memory.write m k v

/-- Keys strictly rising from `lo` on, and no pair that says what an unlisted cell reads as. -/
def Memory.risesFrom : Nat → Memory → Bool
  | _, [] => true
  | lo, (k, v) :: m => decide (lo ≤ k) && decide (v ≠ unlistedByte) && Memory.risesFrom (k + 1) m

/-- The canonical form. -/
def Memory.wf (m : Memory) : Bool := Memory.risesFrom 0 m

/-- Every listed cell lies in an array of `size` cells. -/
def Memory.fits (size : Nat) (m : Memory) : Bool := m.all fun c => decide (c.1 < size)

/-- The memory whose cells from `k` on hold `bytes`. -/
def Memory.ofBytesFrom : Nat → List Byte → Memory
  | _, [] => []
  | k, v :: bytes => Memory.cell k v ++ Memory.ofBytesFrom (k + 1) bytes

/-- The memory whose first cells hold `bytes`. -/
def Memory.ofBytes (bytes : List Byte) : Memory := Memory.ofBytesFrom 0 bytes

end Sys2Proof.Machine
end

