-- ==== Sys2Proof/Machine/PpuBus.lean ====
section
/-! DEFINITION. The PPU's own 14-bit bus (62_ppu.md R310 to R313) and the mapper's PPU side
(20_memory.md R63). -/

namespace Sys2Proof.Machine

open Sys2Proof.Config (Mirroring)

/-- `nt_index(addr)`: the index into VRAM of a nametable address (62_ppu.md R312). -/
def ntIndex (m : Mirroring) (addr : PpuAddr) : Nat :=
  let a := addr &&& 0x0FFF#14
  match m with
  | .vertical => (a &&& 0x07FF#14).toNat
  | .horizontal => (((a >>> 1) &&& 0x0400#14) ||| (a &&& 0x03FF#14)).toNat

/-- `pal_index(addr)`: the palette cell of an address, or of a 5-bit pixel index widened to one
(62_ppu.md R313). -/
def palIndex (addr : PpuAddr) : Nat :=
  let i := addr &&& 0x001F#14
  (if i &&& 0x0013#14 = 0x0010#14 then i &&& 0x000F#14 else i).toNat

/-- What `PpuRead` depends on beside the PPU itself: the mapper's CHR memory and the mirroring of the
cartridge (62_ppu.md R310). -/
structure PpuEnv where
  chr : Memory
  mirroring : Mirroring
  deriving DecidableEq, Repr

/-- The PPU's surroundings in a state. -/
def State.ppuEnv (s : State) : PpuEnv := { chr := s.chr, mirroring := s.cart.mirroring }

/-- `PpuRead(addr)`: no side effect (62_ppu.md R310). -/
def ppuRead (env : PpuEnv) (p : Ppu) (addr : PpuAddr) : Byte :=
  if addr.toNat < 0x2000 then env.chr.read addr.toNat
  else if addr.toNat < 0x3F00 then p.vram.read (ntIndex env.mirroring addr)
  else p.palette.read (palIndex addr)

/-- NROM `ppu_write`: CHR RAM is written, CHR ROM is not (20_memory.md R63). -/
def mapperPpuWrite (addr : PpuAddr) (v : Byte) (s : State) : State :=
  if s.cart.chrBanks = 0 then s.setChr (s.chr.write addr.toNat v) else s

/-- `PpuWrite(addr, val)`: palette cells keep 6 bits (62_ppu.md R311). -/
def ppuWrite (addr : PpuAddr) (v : Byte) (s : State) : State :=
  if addr.toNat < 0x2000 then mapperPpuWrite addr v s
  else if addr.toNat < 0x3F00 then
    s.setPpu { s.ppu with vram := s.ppu.vram.write (ntIndex s.cart.mirroring addr) v }
  else
    s.setPpu { s.ppu with palette := s.ppu.palette.write (palIndex addr) (v &&& 0x3F#8) }

end Sys2Proof.Machine
end

