-- ==== Sys2Proof/Machine/PpuRegs.lean ====
section
/-! DEFINITION. The eight PPU registers as the CPU sees them (62_ppu.md R319 to R328). -/

namespace Sys2Proof.Machine

/-- Write 0x2000, PPUCTRL: `t <- (t & 0x73FF) | ((val & 3) << 10)` (62_ppu.md R320). -/
def Ppu.writeCtrl (v : Byte) (p : Ppu) : Ppu :=
  { p with ctrl := v, t := (p.t &&& 0x73FF#15) ||| ((v &&& 0x03#8).setWidth 15 <<< 10) }

/-- Write 0x2001, PPUMASK (62_ppu.md R321). -/
def Ppu.writeMask (v : Byte) (p : Ppu) : Ppu := { p with mask := v }

/-- Read 0x2002, PPUSTATUS: the value returned (62_ppu.md R322). -/
def Ppu.statusByte (p : Ppu) : Byte := p.status &&& 0xE0#8

/-- Read 0x2002, PPUSTATUS: bit 7 and the write toggle are cleared (62_ppu.md R322). -/
def Ppu.afterStatusRead (p : Ppu) : Ppu := { p with status := p.status &&& 0x7F#8, writeToggle := false }

/-- Write 0x2003, OAMADDR (62_ppu.md R323). -/
def Ppu.writeOamAddr (v : Byte) (p : Ppu) : Ppu := { p with oamAddr := v }

/-- Read 0x2004, OAMDATA: no side effect (62_ppu.md R324). -/
def Ppu.oamData (p : Ppu) : Byte := p.oam.read p.oamAddr.toNat

/-- Write 0x2004, OAMDATA (62_ppu.md R324). -/
def Ppu.writeOamData (v : Byte) (p : Ppu) : Ppu :=
  { p with oam := p.oam.write p.oamAddr.toNat v, oamAddr := p.oamAddr + 0x01#8 }

/-- Write 0x2005, PPUSCROLL: horizontal half first, then the vertical half (62_ppu.md R325). -/
def Ppu.writeScroll (v : Byte) (p : Ppu) : Ppu :=
  if p.writeToggle then
    { p with
      t := (p.t &&& 0x0C1F#15) ||| ((v &&& 0x07#8).setWidth 15 <<< 12) ||| ((v >>> 3).setWidth 15 <<< 5)
      writeToggle := false }
  else
    { p with
      t := (p.t &&& 0x7FE0#15) ||| (v >>> 3).setWidth 15
      fineX := v.setWidth 3
      writeToggle := true }

/-- Write 0x2006, PPUADDR: high byte first, then the low byte, which also loads `v` (62_ppu.md R326). -/
def Ppu.writeAddr (v : Byte) (p : Ppu) : Ppu :=
  if p.writeToggle then
    let t := (p.t &&& 0x7F00#15) ||| v.setWidth 15
    { p with t := t, v := t, writeToggle := false }
  else
    { p with t := (p.t &&& 0x00FF#15) ||| ((v &&& 0x3F#8).setWidth 15 <<< 8), writeToggle := true }

/-- The bus address of a 0x2007 access, `v[13:0]` (62_ppu.md R327). -/
def Ppu.dataAddr (p : Ppu) : PpuAddr := p.v.setWidth 14

/-- `v` after a 0x2007 access: plus 1, or 32 if `ctrl[2]` (62_ppu.md R327, R328). -/
def Ppu.nextDataAddr (p : Ppu) : VramReg := p.v + (if bitOf p.ctrl 2 then 32#15 else 1#15)

/-- Read 0x2007, PPUDATA: below 0x3F00 the old buffer is returned; a palette read is immediate
(62_ppu.md R327). -/
def Ppu.dataByte (env : PpuEnv) (p : Ppu) : Byte :=
  if p.dataAddr.toNat < 0x3F00 then p.readBuffer else ppuRead env p p.dataAddr

/-- Read 0x2007, PPUDATA: the buffer is refilled, from the nametable byte underneath on a palette read,
and `v` moves on (62_ppu.md R327). -/
def Ppu.afterDataRead (env : PpuEnv) (p : Ppu) : Ppu :=
  { p with
    readBuffer := ppuRead env p (if p.dataAddr.toNat < 0x3F00 then p.dataAddr else p.dataAddr - 0x1000#14)
    v := p.nextDataAddr }

/-- Write 0x2007, PPUDATA (62_ppu.md R328). -/
def writePpuData (v : Byte) (s : State) : State :=
  let s' := ppuWrite s.ppu.dataAddr v s
  s'.setPpu { s'.ppu with v := s.ppu.nextDataAddr }

/-- `ppu_reg_read(n)`; the write-only registers 0, 1, 3, 5, 6 read as 0 (62_ppu.md R319). -/
def ppuRegRead (n : Nat) (s : State) : Byte × State :=
  match n with
  | 2 => (s.ppu.statusByte, s.setPpu s.ppu.afterStatusRead)
  | 4 => (s.ppu.oamData, s)
  | 7 => (s.ppu.dataByte s.ppuEnv, s.setPpu (s.ppu.afterDataRead s.ppuEnv))
  | _ => (0x00#8, s)

/-- `ppu_reg_write(n, val)`; a write to the read-only register 2 has no effect (62_ppu.md R319). -/
def ppuRegWrite (n : Nat) (v : Byte) (s : State) : State :=
  match n with
  | 0 => s.setPpu (s.ppu.writeCtrl v)
  | 1 => s.setPpu (s.ppu.writeMask v)
  | 3 => s.setPpu (s.ppu.writeOamAddr v)
  | 4 => s.setPpu (s.ppu.writeOamData v)
  | 5 => s.setPpu (s.ppu.writeScroll v)
  | 6 => s.setPpu (s.ppu.writeAddr v)
  | 7 => writePpuData v s
  | _ => s

end Sys2Proof.Machine
end

