-- ==== Sys2Proof/Machine/Ops.lean ====
section
/-! DEFINITION. The operations every instruction is made of: the CPU bus (20_memory.md), the stack
(10_state.md R23), fetching (30_encoding.md R101), the interrupt sequence (60_exceptions.md R255) and
the return from it (44_stack_flag_system.md R241). -/

namespace Sys2Proof.Machine

/-! ## The cartridge address translator -/

/-- The place in PRG ROM of a CPU address from 0x8000 up: one bank is mirrored (20_memory.md R61). -/
def Cartridge.prgIndex (c : Cartridge) (addr : Word) : Nat :=
  (addr.toNat - 0x8000) % (Config.prgBankSize * c.prgBanks)

/-- NROM `cpu_read(addr)` (20_memory.md R61). -/
def Cartridge.cpuRead (c : Cartridge) (addr : Word) : Byte := c.prgRom.read (c.prgIndex addr)

/-- NROM `cpu_write(addr, v)` does nothing (20_memory.md R62). -/
def mapperCpuWrite (_addr : Word) (_v : Byte) (s : State) : State := s

/-! ## The CPU bus -/

/-- `MemRead(addr, 1)`: the byte and the state after the row's side effect (20_memory.md R51, R52). -/
def memRead (addr : Word) (s : State) : Byte × State :=
  let n := addr.toNat
  if n < 0x2000 then (s.ram.read (n % 0x0800), s)
  else if n < 0x4000 then ppuRegRead (n % 8) s
  else if n = 0x4016 then readPad1 s
  else if n = 0x4017 then readPad2 s
  else if n < 0x6000 then (0x00#8, s)
  else if n < 0x8000 then (s.prgRam.read (n - 0x6000), s)
  else (s.cart.cpuRead addr, s)

/-- One byte of the OAM DMA: the byte at offset `i` of the page goes to `oam[(oam_addr + i) mod 256]`
(60_exceptions.md R275). -/
def dmaByte (pageNo : Byte) (i : Nat) (s : State) : State :=
  let r := memRead (wordOf (BitVec.ofNat 8 i) pageNo) s
  let q := r.2.ppu
  r.2.setPpu { q with oam := q.oam.write ((q.oamAddr.toNat + i) % 256) r.1 }

/-- The first `k` bytes of the OAM DMA, in ascending order (60_exceptions.md R275). -/
def dmaCopy (pageNo : Byte) : Nat → State → State
  | 0, s => s
  | k + 1, s => dmaByte pageNo k (dmaCopy pageNo k s)

/-- The OAM DMA copies 256 bytes (60_exceptions.md R275). -/
def oamDma (pageNo : Byte) (s : State) : State := dmaCopy pageNo 256 s

/-- The address whose write starts the OAM DMA (20_memory.md R56). -/
def oamDmaAddr : Word := 0x4014#16

/-- `dmaStall` of an instruction whose data write is at `addr`: 513 cycles, one more if `cycles` was odd
when the instruction began (60_exceptions.md R275). -/
def dmaStall (addr : Word) (cyclesAtStart : Nat) : Nat :=
  if addr = oamDmaAddr then 513 + cyclesAtStart % 2 else 0

/-- `MemWrite(addr, 1, v)` (20_memory.md R51, R53). -/
def memWrite (addr : Word) (v : Byte) (s : State) : State :=
  let n := addr.toNat
  if n < 0x2000 then s.setRam (s.ram.write (n % 0x0800) v)
  else if n < 0x4000 then ppuRegWrite (n % 8) v s
  else if n = 0x4014 then oamDma v s
  else if n = 0x4016 then writePads v s
  else if n < 0x6000 then s
  else if n < 0x8000 then s.setPrgRam (s.prgRam.write (n - 0x6000) v)
  else mapperCpuWrite addr v s

/-- Two bus reads, the low byte first, as the 16-bit value (20_memory.md R66). -/
def readPair (loAddr hiAddr : Word) (s : State) : Word × State :=
  let l := memRead loAddr s
  let h := memRead hiAddr l.2
  (wordOf l.1 h.1, h.2)

/-- `Read16(addr)` (20_memory.md R66). -/
def read16 (addr : Word) (s : State) : Word × State := readPair addr (addr + 1#16) s

/-! ## The stack -/

/-- The address of a stack byte, `0x0100 + SP` (10_state.md R23). -/
def stackAddr (sp : Byte) : Word := wordOf sp 0x01#8

/-- `Push(v)`: write, then decrement (10_state.md R23). -/
def push (v : Byte) (s : State) : State :=
  let s' := memWrite (stackAddr s.sp) v s
  s'.setSp (s'.sp - 0x01#8)

/-- `Pull()`: increment, then read (10_state.md R23). -/
def pull (s : State) : Byte × State :=
  let s' := s.setSp (s.sp + 0x01#8)
  memRead (stackAddr s'.sp) s'

/-- Pushes a 16-bit value, the high byte first (20_memory.md R66, 43_control_flow.md R202). -/
def pushWord (w : Word) (s : State) : State := push (loByte w) (push (hiByte w) s)

/-- Pulls a 16-bit value, the low byte first (43_control_flow.md R204). -/
def pullWord (s : State) : Word × State :=
  let l := pull s
  let h := pull l.2
  (wordOf l.1 h.1, h.2)

/-! ## Fetching -/

/-- `Fetch()` (30_encoding.md R101). -/
def fetchByte (s : State) : Byte × State :=
  let r := memRead s.pc s
  (r.1, r.2.setPc (r.2.pc + 1#16))

/-- Reads the whole instruction at `PC`: the opcode byte, then the operand bytes of its row at ascending
addresses (30_encoding.md R100, R101, R115). The state after it has `PC` at the next instruction. -/
def fetchInstr (s : State) : Instr × State :=
  let op := fetchByte s
  match opcodeForm op.1 with
  | .f1 i => (i, op.2)
  | .f2 build =>
    let b := fetchByte op.2
    (build b.1, b.2)
  | .f3 build =>
    let lo := fetchByte op.2
    let hi := fetchByte lo.2
    (build (operand16 lo.1 hi.1), hi.2)

/-! ## Taking an exception, and returning from it -/

/-- The NMI vector (20_memory.md R65). -/
def nmiVector : Word := 0xFFFA#16
/-- The reset vector (20_memory.md R65). -/
def resetVector : Word := 0xFFFC#16
/-- The IRQ and BRK vector (20_memory.md R65). -/
def irqVector : Word := 0xFFFE#16

/-- The sequence BRK, NMI and IRQ share: push the return address, high byte first, push the status byte,
set `I`, load `PC` from the vector (60_exceptions.md R255, R258; 44_stack_flag_system.md R240). -/
def takeException (ret : Word) (status : Byte) (vector : Word) (s : State) : State :=
  let s1 := push status (pushWord ret s)
  let s2 := s1.setP (setFlag .I true s1.p)
  let r := read16 vector s2
  r.2.setPc r.1

/-- The return: pull `P` without bits 5 and 4, then pull `PC` (44_stack_flag_system.md R241). -/
def returnFromException (s : State) : State :=
  let b := pull s
  let s1 := b.2.setP (pulledStatus b.1)
  let r := pullWord s1
  r.2.setPc r.1

/-- The cycles of an NMI or IRQ sequence (60_exceptions.md R255). -/
def interruptCycles : Nat := 7

/-- `nmi()` (60_exceptions.md R256). -/
def nmi (s : State) : State :=
  (takeException s.pc (pushedByInterrupt s.p) nmiVector s).addCycles interruptCycles

/-- `irq()`: nothing while `I` is set (60_exceptions.md R257). -/
def irq (s : State) : State :=
  if getFlag .I s.p then s
  else (takeException s.pc (pushedByInterrupt s.p) irqVector s).addCycles interruptCycles

/-! ## How an instruction ends -/

/-- An instruction that completes adds its cycles (30_encoding.md R100). -/
def finish (n : Nat) (s : State) : Result := .next (s.addCycles n)

/-- `raise IllegalOpcode(byte, pc)` with `pc` the address the byte was fetched from: `PC` has been
incremented once since (60_exceptions.md R251). -/
def raiseIllegalOpcode (byte : Byte) (s : State) : Result := .fault (.illegalOpcode byte (s.pc - 1#16))

end Sys2Proof.Machine
end

