-- ==== Sys2Proof/Machine/Operands.lean ====
section
/-! DEFINITION. The addressing modes (30_encoding.md R102 to R114) and the four ways an instruction uses
one: a read, a store, a read-modify-write, a branch. An operand byte or word is what the fetch read;
`PC` is already at the next instruction. -/

namespace Sys2Proof.Machine

/-- An addressing mode that yields a memory address, with its operand (30_encoding.md R105 to R114). -/
inductive MemOperand where
  | zp (b : Byte)
  | zpX (b : Byte)
  | zpY (b : Byte)
  | abs (w : Word)
  | absX (w : Word)
  | absY (w : Word)
  | indX (b : Byte)
  | indY (b : Byte)
  deriving DecidableEq, Repr

/-- Where an instruction that reads takes its byte from. -/
inductive Source where
  /-- Immediate: the operand byte itself, which the fetch read at `ea` (30_encoding.md R104). -/
  | imm (b : Byte)
  | mem (o : MemOperand)
  deriving DecidableEq, Repr

/-- What an addressing mode returns: the effective address, whether the index crossed a page, and the
state after the mode's pointer reads (30_encoding.md R100). -/
structure Resolved where
  ea : Word
  crossed : Bool
  st : State

/-- A base address plus an index register, with the page test (30_encoding.md R110). -/
def indexed (base : Word) (index : Byte) (s : State) : Resolved :=
  let ea := base + zext16 index
  { ea := ea, crossed := decide (page ea ≠ page base), st := s }

/-- The pointer of an indirect mode at zero-page address `z`: its high byte wraps within page zero
(30_encoding.md R113, R114). -/
def readZeroPagePointer (z : Byte) (s : State) : Word × State :=
  readPair (zext16 z) (zext16 (z + 0x01#8)) s

/-- Runs an addressing mode (30_encoding.md R105, R106, R108 to R111, R113, R114). -/
def MemOperand.resolve (o : MemOperand) (s : State) : Resolved :=
  match o with
  | .zp b => { ea := zext16 b, crossed := false, st := s }
  | .zpX b => { ea := zext16 (b + s.x), crossed := false, st := s }
  | .zpY b => { ea := zext16 (b + s.y), crossed := false, st := s }
  | .abs w => { ea := w, crossed := false, st := s }
  | .absX w => indexed w s.x s
  | .absY w => indexed w s.y s
  | .indX b =>
    let r := readZeroPagePointer (b + s.x) s
    { ea := r.1, crossed := false, st := r.2 }
  | .indY b =>
    let r := readZeroPagePointer b s
    indexed r.1 r.2.y r.2

/-- The address of the high byte of a `JMP (ind)` pointer: the same page as the low byte
(30_encoding.md R112). -/
def jumpPointerHi (ptr : Word) : Word := (ptr &&& 0xFF00#16) ||| ((ptr + 1#16) &&& 0x00FF#16)

/-- The indirect mode of JMP: the target and the state after the pointer reads (30_encoding.md R112). -/
def resolveIndirect (ptr : Word) (s : State) : Word × State := readPair ptr (jumpPointerHi ptr) s

/-- A byte an instruction has read, whether its mode crossed a page, and the state after the reads. -/
structure Fetched where
  val : Byte
  crossed : Bool
  st : State

/-- The mode, then the one data read (30_encoding.md R100, 40_load_store_transfer.md R139). -/
def Source.fetch (o : Source) (s : State) : Fetched :=
  match o with
  | .imm b => { val := b, crossed := false, st := s }
  | .mem m =>
    let r := m.resolve s
    let d := memRead r.ea r.st
    { val := d.1, crossed := r.crossed, st := d.2 }

/-- One cycle more when the mode crossed a page and the row says so (30_encoding.md R117). -/
def pagePenalty (row crossed : Bool) : Nat := if row && crossed then 1 else 0

/-- An instruction that reads its operand and then works on registers and flags. `base` and `penalty`
are the row's base cycles and its "+1 on page cross". -/
def readOp (base : Nat) (penalty : Bool) (o : Source) (act : Byte → State → State) (s : State) : Result :=
  let r := o.fetch s
  finish (base + pagePenalty penalty r.crossed) (act r.val r.st)

/-- An instruction that stores `val` and reads nothing at `ea` (40_load_store_transfer.md R139, R143). -/
def storeOp (base : Nat) (o : MemOperand) (val : Byte) (s : State) : Result :=
  let r := o.resolve s
  finish (base + dmaStall r.ea s.cycles) (memWrite r.ea val r.st)

/-- An instruction that reads a byte, computes, and writes the result back: one read and one write
(20_memory.md R69, 42_shift_rotate.md R190). -/
def modifyOp (base : Nat) (o : MemOperand) (alu : Byte → Byte → Alu) (s : State) : Result :=
  let r := o.resolve s
  let d := memRead r.ea r.st
  let res := alu d.1 s.p
  finish (base + dmaStall r.ea s.cycles) ((memWrite r.ea res.val d.2).setP res.p)

/-- An accumulator form: the operand and the destination are `A` (30_encoding.md R103). -/
def accumulatorOp (base : Nat) (alu : Byte → Byte → Alu) (s : State) : Result :=
  let res := alu s.a s.p
  finish base ((s.setA res.val).setP res.p)

/-- The target of a branch (30_encoding.md R107). -/
def branchTarget (off : Byte) (s : State) : Word := s.pc + sext16 off

/-- `branch(cond)`: 2 cycles, 1 more if taken, 1 more if the target lies in another page
(43_control_flow.md R203). -/
def branch (cond : Bool) (off : Byte) (s : State) : Result :=
  if cond then
    finish (if page (branchTarget off s) = page s.pc then 3 else 4) (s.setPc (branchTarget off s))
  else finish 2 s

end Sys2Proof.Machine
end

