-- ==== Sys2Proof/Machine/LoadStore.lean ====
section
/-! DEFINITION. The meanings of 40_load_store_transfer.md: loads, stores and register transfers.
Each definition is one row of 30_encoding.md R120: its mode, its base cycles and its page-cross mark. -/

namespace Sys2Proof.Machine

/-- `A <- v; SetZN(A)` (40_load_store_transfer.md R140). -/
def loadA (v : Byte) (s : State) : State := (s.setA v).setP (setZN v s.p)

/-- `X <- v; SetZN(X)` (40_load_store_transfer.md R141). -/
def loadX (v : Byte) (s : State) : State := (s.setX v).setP (setZN v s.p)

/-- `Y <- v; SetZN(Y)` (40_load_store_transfer.md R142). -/
def loadY (v : Byte) (s : State) : State := (s.setY v).setP (setZN v s.p)

/-- LDA immediate (40 R140). -/
def execLdaImm (b : Byte) (s : State) : Result := readOp 2 false (.imm b) loadA s

/-- LDA zero page (40 R140). -/
def execLdaZp (b : Byte) (s : State) : Result := readOp 3 false (.mem (.zp b)) loadA s

/-- LDA zero page,X (40 R140). -/
def execLdaZpX (b : Byte) (s : State) : Result := readOp 4 false (.mem (.zpX b)) loadA s

/-- LDA absolute (40 R140). -/
def execLdaAbs (w : Word) (s : State) : Result := readOp 4 false (.mem (.abs w)) loadA s

/-- LDA absolute,X (40 R140). -/
def execLdaAbsX (w : Word) (s : State) : Result := readOp 4 true (.mem (.absX w)) loadA s

/-- LDA absolute,Y (40 R140). -/
def execLdaAbsY (w : Word) (s : State) : Result := readOp 4 true (.mem (.absY w)) loadA s

/-- LDA (indirect,X) (40 R140). -/
def execLdaIndX (b : Byte) (s : State) : Result := readOp 6 false (.mem (.indX b)) loadA s

/-- LDA (indirect),Y (40 R140). -/
def execLdaIndY (b : Byte) (s : State) : Result := readOp 5 true (.mem (.indY b)) loadA s

/-- LDX immediate (40 R141). -/
def execLdxImm (b : Byte) (s : State) : Result := readOp 2 false (.imm b) loadX s

/-- LDX zero page (40 R141). -/
def execLdxZp (b : Byte) (s : State) : Result := readOp 3 false (.mem (.zp b)) loadX s

/-- LDX zero page,Y (40 R141). -/
def execLdxZpY (b : Byte) (s : State) : Result := readOp 4 false (.mem (.zpY b)) loadX s

/-- LDX absolute (40 R141). -/
def execLdxAbs (w : Word) (s : State) : Result := readOp 4 false (.mem (.abs w)) loadX s

/-- LDX absolute,Y (40 R141). -/
def execLdxAbsY (w : Word) (s : State) : Result := readOp 4 true (.mem (.absY w)) loadX s

/-- LDY immediate (40 R142). -/
def execLdyImm (b : Byte) (s : State) : Result := readOp 2 false (.imm b) loadY s

/-- LDY zero page (40 R142). -/
def execLdyZp (b : Byte) (s : State) : Result := readOp 3 false (.mem (.zp b)) loadY s

/-- LDY zero page,X (40 R142). -/
def execLdyZpX (b : Byte) (s : State) : Result := readOp 4 false (.mem (.zpX b)) loadY s

/-- LDY absolute (40 R142). -/
def execLdyAbs (w : Word) (s : State) : Result := readOp 4 false (.mem (.abs w)) loadY s

/-- LDY absolute,X (40 R142). -/
def execLdyAbsX (w : Word) (s : State) : Result := readOp 4 true (.mem (.absX w)) loadY s

/-- STA zero page (40 R143). -/
def execStaZp (b : Byte) (s : State) : Result := storeOp 3 (.zp b) s.a s

/-- STA zero page,X (40 R143). -/
def execStaZpX (b : Byte) (s : State) : Result := storeOp 4 (.zpX b) s.a s

/-- STA absolute (40 R143). -/
def execStaAbs (w : Word) (s : State) : Result := storeOp 4 (.abs w) s.a s

/-- STA absolute,X (40 R143). -/
def execStaAbsX (w : Word) (s : State) : Result := storeOp 5 (.absX w) s.a s

/-- STA absolute,Y (40 R143). -/
def execStaAbsY (w : Word) (s : State) : Result := storeOp 5 (.absY w) s.a s

/-- STA (indirect,X) (40 R143). -/
def execStaIndX (b : Byte) (s : State) : Result := storeOp 6 (.indX b) s.a s

/-- STA (indirect),Y (40 R143). -/
def execStaIndY (b : Byte) (s : State) : Result := storeOp 6 (.indY b) s.a s

/-- STX zero page (40 R144). -/
def execStxZp (b : Byte) (s : State) : Result := storeOp 3 (.zp b) s.x s

/-- STX zero page,Y (40 R144). -/
def execStxZpY (b : Byte) (s : State) : Result := storeOp 4 (.zpY b) s.x s

/-- STX absolute (40 R144). -/
def execStxAbs (w : Word) (s : State) : Result := storeOp 4 (.abs w) s.x s

/-- STY zero page (40 R145). -/
def execStyZp (b : Byte) (s : State) : Result := storeOp 3 (.zp b) s.y s

/-- STY zero page,X (40 R145). -/
def execStyZpX (b : Byte) (s : State) : Result := storeOp 4 (.zpX b) s.y s

/-- STY absolute (40 R145). -/
def execStyAbs (w : Word) (s : State) : Result := storeOp 4 (.abs w) s.y s

/-- TAX: `X <- A; SetZN(X)` (40 R146). -/
def execTax (s : State) : Result := finish 2 (loadX s.a s)

/-- TAY: `Y <- A; SetZN(Y)` (40 R147). -/
def execTay (s : State) : Result := finish 2 (loadY s.a s)

/-- TXA: `A <- X; SetZN(A)` (40 R148). -/
def execTxa (s : State) : Result := finish 2 (loadA s.x s)

/-- TYA: `A <- Y; SetZN(A)` (40 R149). -/
def execTya (s : State) : Result := finish 2 (loadA s.y s)

/-- TSX: `X <- SP; SetZN(X)` (40 R150). -/
def execTsx (s : State) : Result := finish 2 (loadX s.sp s)

/-- TXS: `SP <- X`, no flag (40 R151). -/
def execTxs (s : State) : Result := finish 2 (s.setSp s.x)

end Sys2Proof.Machine
end

