-- ==== Sys2Proof/Machine/Arith.lean ====
section
/-! DEFINITION. The meanings of 41_arithmetic_logic.md: add, subtract, logic, compare, bit test,
increment and decrement. -/

namespace Sys2Proof.Machine

/-- The accumulator and the flags take an arithmetic result. -/
def aluIntoA (alu : Byte → Byte → Byte → Alu) (m : Byte) (s : State) : State :=
  (s.setA (alu s.a m s.p).val).setP (alu s.a m s.p).p

/-- ADC (41_arithmetic_logic.md R163). -/
def adcAct (m : Byte) (s : State) : State := aluIntoA adcAlu m s

/-- SBC (41_arithmetic_logic.md R164). -/
def sbcAct (m : Byte) (s : State) : State := aluIntoA sbcAlu m s

/-- AND (41_arithmetic_logic.md R165). -/
def andAct (m : Byte) (s : State) : State := loadA (s.a &&& m) s

/-- ORA (41_arithmetic_logic.md R166). -/
def oraAct (m : Byte) (s : State) : State := loadA (s.a ||| m) s

/-- EOR (41_arithmetic_logic.md R167). -/
def eorAct (m : Byte) (s : State) : State := loadA (s.a ^^^ m) s

/-- CMP (41_arithmetic_logic.md R168). -/
def cmpAct (m : Byte) (s : State) : State := s.setP (compareFlags s.a m s.p)

/-- CPX (41_arithmetic_logic.md R169). -/
def cpxAct (m : Byte) (s : State) : State := s.setP (compareFlags s.x m s.p)

/-- CPY (41_arithmetic_logic.md R170). -/
def cpyAct (m : Byte) (s : State) : State := s.setP (compareFlags s.y m s.p)

/-- BIT (41_arithmetic_logic.md R171). -/
def bitAct (m : Byte) (s : State) : State := s.setP (bitFlags s.a m s.p)

/-- ADC immediate (41 R163). -/
def execAdcImm (b : Byte) (s : State) : Result := readOp 2 false (.imm b) adcAct s

/-- ADC zero page (41 R163). -/
def execAdcZp (b : Byte) (s : State) : Result := readOp 3 false (.mem (.zp b)) adcAct s

/-- ADC zero page,X (41 R163). -/
def execAdcZpX (b : Byte) (s : State) : Result := readOp 4 false (.mem (.zpX b)) adcAct s

/-- ADC absolute (41 R163). -/
def execAdcAbs (w : Word) (s : State) : Result := readOp 4 false (.mem (.abs w)) adcAct s

/-- ADC absolute,X (41 R163). -/
def execAdcAbsX (w : Word) (s : State) : Result := readOp 4 true (.mem (.absX w)) adcAct s

/-- ADC absolute,Y (41 R163). -/
def execAdcAbsY (w : Word) (s : State) : Result := readOp 4 true (.mem (.absY w)) adcAct s

/-- ADC (indirect,X) (41 R163). -/
def execAdcIndX (b : Byte) (s : State) : Result := readOp 6 false (.mem (.indX b)) adcAct s

/-- ADC (indirect),Y (41 R163). -/
def execAdcIndY (b : Byte) (s : State) : Result := readOp 5 true (.mem (.indY b)) adcAct s

/-- SBC immediate (41 R164). -/
def execSbcImm (b : Byte) (s : State) : Result := readOp 2 false (.imm b) sbcAct s

/-- SBC zero page (41 R164). -/
def execSbcZp (b : Byte) (s : State) : Result := readOp 3 false (.mem (.zp b)) sbcAct s

/-- SBC zero page,X (41 R164). -/
def execSbcZpX (b : Byte) (s : State) : Result := readOp 4 false (.mem (.zpX b)) sbcAct s

/-- SBC absolute (41 R164). -/
def execSbcAbs (w : Word) (s : State) : Result := readOp 4 false (.mem (.abs w)) sbcAct s

/-- SBC absolute,X (41 R164). -/
def execSbcAbsX (w : Word) (s : State) : Result := readOp 4 true (.mem (.absX w)) sbcAct s

/-- SBC absolute,Y (41 R164). -/
def execSbcAbsY (w : Word) (s : State) : Result := readOp 4 true (.mem (.absY w)) sbcAct s

/-- SBC (indirect,X) (41 R164). -/
def execSbcIndX (b : Byte) (s : State) : Result := readOp 6 false (.mem (.indX b)) sbcAct s

/-- SBC (indirect),Y (41 R164). -/
def execSbcIndY (b : Byte) (s : State) : Result := readOp 5 true (.mem (.indY b)) sbcAct s

/-- AND immediate (41 R165). -/
def execAndImm (b : Byte) (s : State) : Result := readOp 2 false (.imm b) andAct s

/-- AND zero page (41 R165). -/
def execAndZp (b : Byte) (s : State) : Result := readOp 3 false (.mem (.zp b)) andAct s

/-- AND zero page,X (41 R165). -/
def execAndZpX (b : Byte) (s : State) : Result := readOp 4 false (.mem (.zpX b)) andAct s

/-- AND absolute (41 R165). -/
def execAndAbs (w : Word) (s : State) : Result := readOp 4 false (.mem (.abs w)) andAct s

/-- AND absolute,X (41 R165). -/
def execAndAbsX (w : Word) (s : State) : Result := readOp 4 true (.mem (.absX w)) andAct s

/-- AND absolute,Y (41 R165). -/
def execAndAbsY (w : Word) (s : State) : Result := readOp 4 true (.mem (.absY w)) andAct s

/-- AND (indirect,X) (41 R165). -/
def execAndIndX (b : Byte) (s : State) : Result := readOp 6 false (.mem (.indX b)) andAct s

/-- AND (indirect),Y (41 R165). -/
def execAndIndY (b : Byte) (s : State) : Result := readOp 5 true (.mem (.indY b)) andAct s

/-- ORA immediate (41 R166). -/
def execOraImm (b : Byte) (s : State) : Result := readOp 2 false (.imm b) oraAct s

/-- ORA zero page (41 R166). -/
def execOraZp (b : Byte) (s : State) : Result := readOp 3 false (.mem (.zp b)) oraAct s

/-- ORA zero page,X (41 R166). -/
def execOraZpX (b : Byte) (s : State) : Result := readOp 4 false (.mem (.zpX b)) oraAct s

/-- ORA absolute (41 R166). -/
def execOraAbs (w : Word) (s : State) : Result := readOp 4 false (.mem (.abs w)) oraAct s

/-- ORA absolute,X (41 R166). -/
def execOraAbsX (w : Word) (s : State) : Result := readOp 4 true (.mem (.absX w)) oraAct s

/-- ORA absolute,Y (41 R166). -/
def execOraAbsY (w : Word) (s : State) : Result := readOp 4 true (.mem (.absY w)) oraAct s

/-- ORA (indirect,X) (41 R166). -/
def execOraIndX (b : Byte) (s : State) : Result := readOp 6 false (.mem (.indX b)) oraAct s

/-- ORA (indirect),Y (41 R166). -/
def execOraIndY (b : Byte) (s : State) : Result := readOp 5 true (.mem (.indY b)) oraAct s

/-- EOR immediate (41 R167). -/
def execEorImm (b : Byte) (s : State) : Result := readOp 2 false (.imm b) eorAct s

/-- EOR zero page (41 R167). -/
def execEorZp (b : Byte) (s : State) : Result := readOp 3 false (.mem (.zp b)) eorAct s

/-- EOR zero page,X (41 R167). -/
def execEorZpX (b : Byte) (s : State) : Result := readOp 4 false (.mem (.zpX b)) eorAct s

/-- EOR absolute (41 R167). -/
def execEorAbs (w : Word) (s : State) : Result := readOp 4 false (.mem (.abs w)) eorAct s

/-- EOR absolute,X (41 R167). -/
def execEorAbsX (w : Word) (s : State) : Result := readOp 4 true (.mem (.absX w)) eorAct s

/-- EOR absolute,Y (41 R167). -/
def execEorAbsY (w : Word) (s : State) : Result := readOp 4 true (.mem (.absY w)) eorAct s

/-- EOR (indirect,X) (41 R167). -/
def execEorIndX (b : Byte) (s : State) : Result := readOp 6 false (.mem (.indX b)) eorAct s

/-- EOR (indirect),Y (41 R167). -/
def execEorIndY (b : Byte) (s : State) : Result := readOp 5 true (.mem (.indY b)) eorAct s

/-- CMP immediate (41 R168). -/
def execCmpImm (b : Byte) (s : State) : Result := readOp 2 false (.imm b) cmpAct s

/-- CMP zero page (41 R168). -/
def execCmpZp (b : Byte) (s : State) : Result := readOp 3 false (.mem (.zp b)) cmpAct s

/-- CMP zero page,X (41 R168). -/
def execCmpZpX (b : Byte) (s : State) : Result := readOp 4 false (.mem (.zpX b)) cmpAct s

/-- CMP absolute (41 R168). -/
def execCmpAbs (w : Word) (s : State) : Result := readOp 4 false (.mem (.abs w)) cmpAct s

/-- CMP absolute,X (41 R168). -/
def execCmpAbsX (w : Word) (s : State) : Result := readOp 4 true (.mem (.absX w)) cmpAct s

/-- CMP absolute,Y (41 R168). -/
def execCmpAbsY (w : Word) (s : State) : Result := readOp 4 true (.mem (.absY w)) cmpAct s

/-- CMP (indirect,X) (41 R168). -/
def execCmpIndX (b : Byte) (s : State) : Result := readOp 6 false (.mem (.indX b)) cmpAct s

/-- CMP (indirect),Y (41 R168). -/
def execCmpIndY (b : Byte) (s : State) : Result := readOp 5 true (.mem (.indY b)) cmpAct s

/-- CPX immediate (41 R169). -/
def execCpxImm (b : Byte) (s : State) : Result := readOp 2 false (.imm b) cpxAct s

/-- CPX zero page (41 R169). -/
def execCpxZp (b : Byte) (s : State) : Result := readOp 3 false (.mem (.zp b)) cpxAct s

/-- CPX absolute (41 R169). -/
def execCpxAbs (w : Word) (s : State) : Result := readOp 4 false (.mem (.abs w)) cpxAct s

/-- CPY immediate (41 R170). -/
def execCpyImm (b : Byte) (s : State) : Result := readOp 2 false (.imm b) cpyAct s

/-- CPY zero page (41 R170). -/
def execCpyZp (b : Byte) (s : State) : Result := readOp 3 false (.mem (.zp b)) cpyAct s

/-- CPY absolute (41 R170). -/
def execCpyAbs (w : Word) (s : State) : Result := readOp 4 false (.mem (.abs w)) cpyAct s

/-- BIT zero page (41 R171). -/
def execBitZp (b : Byte) (s : State) : Result := readOp 3 false (.mem (.zp b)) bitAct s

/-- BIT absolute (41 R171). -/
def execBitAbs (w : Word) (s : State) : Result := readOp 4 false (.mem (.abs w)) bitAct s

/-- INC zero page (41 R172). -/
def execIncZp (b : Byte) (s : State) : Result := modifyOp 5 (.zp b) incAlu s

/-- INC zero page,X (41 R172). -/
def execIncZpX (b : Byte) (s : State) : Result := modifyOp 6 (.zpX b) incAlu s

/-- INC absolute (41 R172). -/
def execIncAbs (w : Word) (s : State) : Result := modifyOp 6 (.abs w) incAlu s

/-- INC absolute,X (41 R172). -/
def execIncAbsX (w : Word) (s : State) : Result := modifyOp 7 (.absX w) incAlu s

/-- DEC zero page (41 R173). -/
def execDecZp (b : Byte) (s : State) : Result := modifyOp 5 (.zp b) decAlu s

/-- DEC zero page,X (41 R173). -/
def execDecZpX (b : Byte) (s : State) : Result := modifyOp 6 (.zpX b) decAlu s

/-- DEC absolute (41 R173). -/
def execDecAbs (w : Word) (s : State) : Result := modifyOp 6 (.abs w) decAlu s

/-- DEC absolute,X (41 R173). -/
def execDecAbsX (w : Word) (s : State) : Result := modifyOp 7 (.absX w) decAlu s

/-- INX: `X <- (X + 1) mod 256; SetZN(X)` (41 R174). -/
def execInx (s : State) : Result := finish 2 (loadX (s.x + 0x01#8) s)

/-- INY: `Y <- (Y + 1) mod 256; SetZN(Y)` (41 R175). -/
def execIny (s : State) : Result := finish 2 (loadY (s.y + 0x01#8) s)

/-- DEX: `X <- (X - 1) mod 256; SetZN(X)` (41 R176). -/
def execDex (s : State) : Result := finish 2 (loadX (s.x - 0x01#8) s)

/-- DEY: `Y <- (Y - 1) mod 256; SetZN(Y)` (41 R177). -/
def execDey (s : State) : Result := finish 2 (loadY (s.y - 0x01#8) s)

end Sys2Proof.Machine
end

