-- ==== Sys2Proof/Machine/ControlFlow.lean ====
section
/-! DEFINITION. The meanings of 43_control_flow.md: jumps, calls, returns and branches. -/

namespace Sys2Proof.Machine

/-- JMP absolute: `PC <- ea` (43 R201). -/
def execJmpAbs (w : Word) (s : State) : Result := finish 3 (s.setPc w)

/-- JMP indirect: the target is read at the operand address (43 R201). -/
def execJmpInd (w : Word) (s : State) : Result :=
  finish 5 ((resolveIndirect w s).2.setPc (resolveIndirect w s).1)

/-- JSR: pushes the address of its own last byte, then `PC <- ea` (43 R202). -/
def execJsr (w : Word) (s : State) : Result := finish 6 ((pushWord (s.pc - 1#16) s).setPc w)

/-- RTS: `PC` is the pulled word plus 1 (43 R204). -/
def execRts (s : State) : Result := finish 6 ((pullWord s).2.setPc ((pullWord s).1 + 1#16))

/-- BCC: `branch(C == 0)` (43 R205). -/
def execBcc (b : Byte) (s : State) : Result := branch (!getFlag .C s.p) b s

/-- BCS: `branch(C == 1)` (43 R206). -/
def execBcs (b : Byte) (s : State) : Result := branch (getFlag .C s.p) b s

/-- BEQ: `branch(Z == 1)` (43 R207). -/
def execBeq (b : Byte) (s : State) : Result := branch (getFlag .Z s.p) b s

/-- BNE: `branch(Z == 0)` (43 R208). -/
def execBne (b : Byte) (s : State) : Result := branch (!getFlag .Z s.p) b s

/-- BMI: `branch(N == 1)` (43 R209). -/
def execBmi (b : Byte) (s : State) : Result := branch (getFlag .N s.p) b s

/-- BPL: `branch(N == 0)` (43 R210). -/
def execBpl (b : Byte) (s : State) : Result := branch (!getFlag .N s.p) b s

/-- BVC: `branch(V == 0)` (43 R211). -/
def execBvc (b : Byte) (s : State) : Result := branch (!getFlag .V s.p) b s

/-- BVS: `branch(V == 1)` (43 R212). -/
def execBvs (b : Byte) (s : State) : Result := branch (getFlag .V s.p) b s

end Sys2Proof.Machine
end

