-- ==== Sys2Proof/Machine/Illegal.lean ====
section
/-! DEFINITION. The 105 illegal opcode bytes (30_encoding.md R121): each row raises IllegalOpcode with its
own byte, a fault that ends the run (60_exceptions.md R251). -/

namespace Sys2Proof.Machine

/-- ILLEGAL_02 (60 R251). -/
def execIllegal02 (s : State) : Result := raiseIllegalOpcode 0x02#8 s

/-- ILLEGAL_03 (60 R251). -/
def execIllegal03 (s : State) : Result := raiseIllegalOpcode 0x03#8 s

/-- ILLEGAL_04 (60 R251). -/
def execIllegal04 (s : State) : Result := raiseIllegalOpcode 0x04#8 s

/-- ILLEGAL_07 (60 R251). -/
def execIllegal07 (s : State) : Result := raiseIllegalOpcode 0x07#8 s

/-- ILLEGAL_0B (60 R251). -/
def execIllegal0B (s : State) : Result := raiseIllegalOpcode 0x0B#8 s

/-- ILLEGAL_0C (60 R251). -/
def execIllegal0C (s : State) : Result := raiseIllegalOpcode 0x0C#8 s

/-- ILLEGAL_0F (60 R251). -/
def execIllegal0F (s : State) : Result := raiseIllegalOpcode 0x0F#8 s

/-- ILLEGAL_12 (60 R251). -/
def execIllegal12 (s : State) : Result := raiseIllegalOpcode 0x12#8 s

/-- ILLEGAL_13 (60 R251). -/
def execIllegal13 (s : State) : Result := raiseIllegalOpcode 0x13#8 s

/-- ILLEGAL_14 (60 R251). -/
def execIllegal14 (s : State) : Result := raiseIllegalOpcode 0x14#8 s

/-- ILLEGAL_17 (60 R251). -/
def execIllegal17 (s : State) : Result := raiseIllegalOpcode 0x17#8 s

/-- ILLEGAL_1A (60 R251). -/
def execIllegal1A (s : State) : Result := raiseIllegalOpcode 0x1A#8 s

/-- ILLEGAL_1B (60 R251). -/
def execIllegal1B (s : State) : Result := raiseIllegalOpcode 0x1B#8 s

/-- ILLEGAL_1C (60 R251). -/
def execIllegal1C (s : State) : Result := raiseIllegalOpcode 0x1C#8 s

/-- ILLEGAL_1F (60 R251). -/
def execIllegal1F (s : State) : Result := raiseIllegalOpcode 0x1F#8 s

/-- ILLEGAL_22 (60 R251). -/
def execIllegal22 (s : State) : Result := raiseIllegalOpcode 0x22#8 s

/-- ILLEGAL_23 (60 R251). -/
def execIllegal23 (s : State) : Result := raiseIllegalOpcode 0x23#8 s

/-- ILLEGAL_27 (60 R251). -/
def execIllegal27 (s : State) : Result := raiseIllegalOpcode 0x27#8 s

/-- ILLEGAL_2B (60 R251). -/
def execIllegal2B (s : State) : Result := raiseIllegalOpcode 0x2B#8 s

/-- ILLEGAL_2F (60 R251). -/
def execIllegal2F (s : State) : Result := raiseIllegalOpcode 0x2F#8 s

/-- ILLEGAL_32 (60 R251). -/
def execIllegal32 (s : State) : Result := raiseIllegalOpcode 0x32#8 s

/-- ILLEGAL_33 (60 R251). -/
def execIllegal33 (s : State) : Result := raiseIllegalOpcode 0x33#8 s

/-- ILLEGAL_34 (60 R251). -/
def execIllegal34 (s : State) : Result := raiseIllegalOpcode 0x34#8 s

/-- ILLEGAL_37 (60 R251). -/
def execIllegal37 (s : State) : Result := raiseIllegalOpcode 0x37#8 s

/-- ILLEGAL_3A (60 R251). -/
def execIllegal3A (s : State) : Result := raiseIllegalOpcode 0x3A#8 s

/-- ILLEGAL_3B (60 R251). -/
def execIllegal3B (s : State) : Result := raiseIllegalOpcode 0x3B#8 s

/-- ILLEGAL_3C (60 R251). -/
def execIllegal3C (s : State) : Result := raiseIllegalOpcode 0x3C#8 s

/-- ILLEGAL_3F (60 R251). -/
def execIllegal3F (s : State) : Result := raiseIllegalOpcode 0x3F#8 s

/-- ILLEGAL_42 (60 R251). -/
def execIllegal42 (s : State) : Result := raiseIllegalOpcode 0x42#8 s

/-- ILLEGAL_43 (60 R251). -/
def execIllegal43 (s : State) : Result := raiseIllegalOpcode 0x43#8 s

/-- ILLEGAL_44 (60 R251). -/
def execIllegal44 (s : State) : Result := raiseIllegalOpcode 0x44#8 s

/-- ILLEGAL_47 (60 R251). -/
def execIllegal47 (s : State) : Result := raiseIllegalOpcode 0x47#8 s

/-- ILLEGAL_4B (60 R251). -/
def execIllegal4B (s : State) : Result := raiseIllegalOpcode 0x4B#8 s

/-- ILLEGAL_4F (60 R251). -/
def execIllegal4F (s : State) : Result := raiseIllegalOpcode 0x4F#8 s

/-- ILLEGAL_52 (60 R251). -/
def execIllegal52 (s : State) : Result := raiseIllegalOpcode 0x52#8 s

/-- ILLEGAL_53 (60 R251). -/
def execIllegal53 (s : State) : Result := raiseIllegalOpcode 0x53#8 s

/-- ILLEGAL_54 (60 R251). -/
def execIllegal54 (s : State) : Result := raiseIllegalOpcode 0x54#8 s

/-- ILLEGAL_57 (60 R251). -/
def execIllegal57 (s : State) : Result := raiseIllegalOpcode 0x57#8 s

/-- ILLEGAL_5A (60 R251). -/
def execIllegal5A (s : State) : Result := raiseIllegalOpcode 0x5A#8 s

/-- ILLEGAL_5B (60 R251). -/
def execIllegal5B (s : State) : Result := raiseIllegalOpcode 0x5B#8 s

/-- ILLEGAL_5C (60 R251). -/
def execIllegal5C (s : State) : Result := raiseIllegalOpcode 0x5C#8 s

/-- ILLEGAL_5F (60 R251). -/
def execIllegal5F (s : State) : Result := raiseIllegalOpcode 0x5F#8 s

/-- ILLEGAL_62 (60 R251). -/
def execIllegal62 (s : State) : Result := raiseIllegalOpcode 0x62#8 s

/-- ILLEGAL_63 (60 R251). -/
def execIllegal63 (s : State) : Result := raiseIllegalOpcode 0x63#8 s

/-- ILLEGAL_64 (60 R251). -/
def execIllegal64 (s : State) : Result := raiseIllegalOpcode 0x64#8 s

/-- ILLEGAL_67 (60 R251). -/
def execIllegal67 (s : State) : Result := raiseIllegalOpcode 0x67#8 s

/-- ILLEGAL_6B (60 R251). -/
def execIllegal6B (s : State) : Result := raiseIllegalOpcode 0x6B#8 s

/-- ILLEGAL_6F (60 R251). -/
def execIllegal6F (s : State) : Result := raiseIllegalOpcode 0x6F#8 s

/-- ILLEGAL_72 (60 R251). -/
def execIllegal72 (s : State) : Result := raiseIllegalOpcode 0x72#8 s

/-- ILLEGAL_73 (60 R251). -/
def execIllegal73 (s : State) : Result := raiseIllegalOpcode 0x73#8 s

/-- ILLEGAL_74 (60 R251). -/
def execIllegal74 (s : State) : Result := raiseIllegalOpcode 0x74#8 s

/-- ILLEGAL_77 (60 R251). -/
def execIllegal77 (s : State) : Result := raiseIllegalOpcode 0x77#8 s

/-- ILLEGAL_7A (60 R251). -/
def execIllegal7A (s : State) : Result := raiseIllegalOpcode 0x7A#8 s

/-- ILLEGAL_7B (60 R251). -/
def execIllegal7B (s : State) : Result := raiseIllegalOpcode 0x7B#8 s

/-- ILLEGAL_7C (60 R251). -/
def execIllegal7C (s : State) : Result := raiseIllegalOpcode 0x7C#8 s

/-- ILLEGAL_7F (60 R251). -/
def execIllegal7F (s : State) : Result := raiseIllegalOpcode 0x7F#8 s

/-- ILLEGAL_80 (60 R251). -/
def execIllegal80 (s : State) : Result := raiseIllegalOpcode 0x80#8 s

/-- ILLEGAL_82 (60 R251). -/
def execIllegal82 (s : State) : Result := raiseIllegalOpcode 0x82#8 s

/-- ILLEGAL_83 (60 R251). -/
def execIllegal83 (s : State) : Result := raiseIllegalOpcode 0x83#8 s

/-- ILLEGAL_87 (60 R251). -/
def execIllegal87 (s : State) : Result := raiseIllegalOpcode 0x87#8 s

/-- ILLEGAL_89 (60 R251). -/
def execIllegal89 (s : State) : Result := raiseIllegalOpcode 0x89#8 s

/-- ILLEGAL_8B (60 R251). -/
def execIllegal8B (s : State) : Result := raiseIllegalOpcode 0x8B#8 s

/-- ILLEGAL_8F (60 R251). -/
def execIllegal8F (s : State) : Result := raiseIllegalOpcode 0x8F#8 s

/-- ILLEGAL_92 (60 R251). -/
def execIllegal92 (s : State) : Result := raiseIllegalOpcode 0x92#8 s

/-- ILLEGAL_93 (60 R251). -/
def execIllegal93 (s : State) : Result := raiseIllegalOpcode 0x93#8 s

/-- ILLEGAL_97 (60 R251). -/
def execIllegal97 (s : State) : Result := raiseIllegalOpcode 0x97#8 s

/-- ILLEGAL_9B (60 R251). -/
def execIllegal9B (s : State) : Result := raiseIllegalOpcode 0x9B#8 s

/-- ILLEGAL_9C (60 R251). -/
def execIllegal9C (s : State) : Result := raiseIllegalOpcode 0x9C#8 s

/-- ILLEGAL_9E (60 R251). -/
def execIllegal9E (s : State) : Result := raiseIllegalOpcode 0x9E#8 s

/-- ILLEGAL_9F (60 R251). -/
def execIllegal9F (s : State) : Result := raiseIllegalOpcode 0x9F#8 s

/-- ILLEGAL_A3 (60 R251). -/
def execIllegalA3 (s : State) : Result := raiseIllegalOpcode 0xA3#8 s

/-- ILLEGAL_A7 (60 R251). -/
def execIllegalA7 (s : State) : Result := raiseIllegalOpcode 0xA7#8 s

/-- ILLEGAL_AB (60 R251). -/
def execIllegalAB (s : State) : Result := raiseIllegalOpcode 0xAB#8 s

/-- ILLEGAL_AF (60 R251). -/
def execIllegalAF (s : State) : Result := raiseIllegalOpcode 0xAF#8 s

/-- ILLEGAL_B2 (60 R251). -/
def execIllegalB2 (s : State) : Result := raiseIllegalOpcode 0xB2#8 s

/-- ILLEGAL_B3 (60 R251). -/
def execIllegalB3 (s : State) : Result := raiseIllegalOpcode 0xB3#8 s

/-- ILLEGAL_B7 (60 R251). -/
def execIllegalB7 (s : State) : Result := raiseIllegalOpcode 0xB7#8 s

/-- ILLEGAL_BB (60 R251). -/
def execIllegalBB (s : State) : Result := raiseIllegalOpcode 0xBB#8 s

/-- ILLEGAL_BF (60 R251). -/
def execIllegalBF (s : State) : Result := raiseIllegalOpcode 0xBF#8 s

/-- ILLEGAL_C2 (60 R251). -/
def execIllegalC2 (s : State) : Result := raiseIllegalOpcode 0xC2#8 s

/-- ILLEGAL_C3 (60 R251). -/
def execIllegalC3 (s : State) : Result := raiseIllegalOpcode 0xC3#8 s

/-- ILLEGAL_C7 (60 R251). -/
def execIllegalC7 (s : State) : Result := raiseIllegalOpcode 0xC7#8 s

/-- ILLEGAL_CB (60 R251). -/
def execIllegalCB (s : State) : Result := raiseIllegalOpcode 0xCB#8 s

/-- ILLEGAL_CF (60 R251). -/
def execIllegalCF (s : State) : Result := raiseIllegalOpcode 0xCF#8 s

/-- ILLEGAL_D2 (60 R251). -/
def execIllegalD2 (s : State) : Result := raiseIllegalOpcode 0xD2#8 s

/-- ILLEGAL_D3 (60 R251). -/
def execIllegalD3 (s : State) : Result := raiseIllegalOpcode 0xD3#8 s

/-- ILLEGAL_D4 (60 R251). -/
def execIllegalD4 (s : State) : Result := raiseIllegalOpcode 0xD4#8 s

/-- ILLEGAL_D7 (60 R251). -/
def execIllegalD7 (s : State) : Result := raiseIllegalOpcode 0xD7#8 s

/-- ILLEGAL_DA (60 R251). -/
def execIllegalDA (s : State) : Result := raiseIllegalOpcode 0xDA#8 s

/-- ILLEGAL_DB (60 R251). -/
def execIllegalDB (s : State) : Result := raiseIllegalOpcode 0xDB#8 s

/-- ILLEGAL_DC (60 R251). -/
def execIllegalDC (s : State) : Result := raiseIllegalOpcode 0xDC#8 s

/-- ILLEGAL_DF (60 R251). -/
def execIllegalDF (s : State) : Result := raiseIllegalOpcode 0xDF#8 s

/-- ILLEGAL_E2 (60 R251). -/
def execIllegalE2 (s : State) : Result := raiseIllegalOpcode 0xE2#8 s

/-- ILLEGAL_E3 (60 R251). -/
def execIllegalE3 (s : State) : Result := raiseIllegalOpcode 0xE3#8 s

/-- ILLEGAL_E7 (60 R251). -/
def execIllegalE7 (s : State) : Result := raiseIllegalOpcode 0xE7#8 s

/-- ILLEGAL_EB (60 R251). -/
def execIllegalEB (s : State) : Result := raiseIllegalOpcode 0xEB#8 s

/-- ILLEGAL_EF (60 R251). -/
def execIllegalEF (s : State) : Result := raiseIllegalOpcode 0xEF#8 s

/-- ILLEGAL_F2 (60 R251). -/
def execIllegalF2 (s : State) : Result := raiseIllegalOpcode 0xF2#8 s

/-- ILLEGAL_F3 (60 R251). -/
def execIllegalF3 (s : State) : Result := raiseIllegalOpcode 0xF3#8 s

/-- ILLEGAL_F4 (60 R251). -/
def execIllegalF4 (s : State) : Result := raiseIllegalOpcode 0xF4#8 s

/-- ILLEGAL_F7 (60 R251). -/
def execIllegalF7 (s : State) : Result := raiseIllegalOpcode 0xF7#8 s

/-- ILLEGAL_FA (60 R251). -/
def execIllegalFA (s : State) : Result := raiseIllegalOpcode 0xFA#8 s

/-- ILLEGAL_FB (60 R251). -/
def execIllegalFB (s : State) : Result := raiseIllegalOpcode 0xFB#8 s

/-- ILLEGAL_FC (60 R251). -/
def execIllegalFC (s : State) : Result := raiseIllegalOpcode 0xFC#8 s

/-- ILLEGAL_FF (60 R251). -/
def execIllegalFF (s : State) : Result := raiseIllegalOpcode 0xFF#8 s

end Sys2Proof.Machine
end

