-- ==== Sys2Proof/Machine/Shift.lean ====
section
/-! DEFINITION. The meanings of 42_shift_rotate.md: ASL, LSR, ROL, ROR, each on the accumulator or
on a memory byte. -/

namespace Sys2Proof.Machine

/-- ASL accumulator (42 R191). -/
def execAslAcc (s : State) : Result := accumulatorOp 2 aslAlu s

/-- ASL zero page (42 R191). -/
def execAslZp (b : Byte) (s : State) : Result := modifyOp 5 (.zp b) aslAlu s

/-- ASL zero page,X (42 R191). -/
def execAslZpX (b : Byte) (s : State) : Result := modifyOp 6 (.zpX b) aslAlu s

/-- ASL absolute (42 R191). -/
def execAslAbs (w : Word) (s : State) : Result := modifyOp 6 (.abs w) aslAlu s

/-- ASL absolute,X (42 R191). -/
def execAslAbsX (w : Word) (s : State) : Result := modifyOp 7 (.absX w) aslAlu s

/-- LSR accumulator (42 R192). -/
def execLsrAcc (s : State) : Result := accumulatorOp 2 lsrAlu s

/-- LSR zero page (42 R192). -/
def execLsrZp (b : Byte) (s : State) : Result := modifyOp 5 (.zp b) lsrAlu s

/-- LSR zero page,X (42 R192). -/
def execLsrZpX (b : Byte) (s : State) : Result := modifyOp 6 (.zpX b) lsrAlu s

/-- LSR absolute (42 R192). -/
def execLsrAbs (w : Word) (s : State) : Result := modifyOp 6 (.abs w) lsrAlu s

/-- LSR absolute,X (42 R192). -/
def execLsrAbsX (w : Word) (s : State) : Result := modifyOp 7 (.absX w) lsrAlu s

/-- ROL accumulator (42 R193). -/
def execRolAcc (s : State) : Result := accumulatorOp 2 rolAlu s

/-- ROL zero page (42 R193). -/
def execRolZp (b : Byte) (s : State) : Result := modifyOp 5 (.zp b) rolAlu s

/-- ROL zero page,X (42 R193). -/
def execRolZpX (b : Byte) (s : State) : Result := modifyOp 6 (.zpX b) rolAlu s

/-- ROL absolute (42 R193). -/
def execRolAbs (w : Word) (s : State) : Result := modifyOp 6 (.abs w) rolAlu s

/-- ROL absolute,X (42 R193). -/
def execRolAbsX (w : Word) (s : State) : Result := modifyOp 7 (.absX w) rolAlu s

/-- ROR accumulator (42 R194). -/
def execRorAcc (s : State) : Result := accumulatorOp 2 rorAlu s

/-- ROR zero page (42 R194). -/
def execRorZp (b : Byte) (s : State) : Result := modifyOp 5 (.zp b) rorAlu s

/-- ROR zero page,X (42 R194). -/
def execRorZpX (b : Byte) (s : State) : Result := modifyOp 6 (.zpX b) rorAlu s

/-- ROR absolute (42 R194). -/
def execRorAbs (w : Word) (s : State) : Result := modifyOp 6 (.abs w) rorAlu s

/-- ROR absolute,X (42 R194). -/
def execRorAbsX (w : Word) (s : State) : Result := modifyOp 7 (.absX w) rorAlu s

end Sys2Proof.Machine
end

