-- ==== Sys2Proof/Machine/StackFlagSystem.lean ====
section
/-! DEFINITION. The meanings of 44_stack_flag_system.md: stack, flag, system and no-operation. -/

namespace Sys2Proof.Machine

/-- PHA: `Push(A)` (44 R231). -/
def execPha (s : State) : Result := finish 3 (push s.a s)

/-- PLA: `A <- Pull(); SetZN(A)` (44 R232). -/
def execPla (s : State) : Result := finish 4 (loadA (pull s).1 (pull s).2)

/-- PHP: `Push(P | 0x30)` (44 R233). -/
def execPhp (s : State) : Result := finish 3 (push (pushedByInstruction s.p) s)

/-- PLP: `b = Pull(); P <- (b & 0xCF) | 0x20` (44 R234). -/
def execPlp (s : State) : Result := finish 4 ((pull s).2.setP (pulledStatus (pull s).1))

/-- CLC: `C <- 0` (44 R235). -/
def execClc (s : State) : Result := finish 2 (s.setP (setFlag .C false s.p))

/-- SEC: `C <- 1` (44 R236). -/
def execSec (s : State) : Result := finish 2 (s.setP (setFlag .C true s.p))

/-- CLI: `I <- 0` (44 R237). -/
def execCli (s : State) : Result := finish 2 (s.setP (setFlag .I false s.p))

/-- SEI: `I <- 1` (44 R238). -/
def execSei (s : State) : Result := finish 2 (s.setP (setFlag .I true s.p))

/-- CLV: `V <- 0` (44 R239). -/
def execClv (s : State) : Result := finish 2 (s.setP (setFlag .V false s.p))

/-- BRK: the interrupt sequence with the address of the opcode plus 2 and `P | 0x30` (44 R240). -/
def execBrk (s : State) : Result :=
  finish 7 (takeException (s.pc + 1#16) (pushedByInstruction s.p) irqVector s)

/-- RTI: pulls `P`, then `PC` (44 R241). -/
def execRti (s : State) : Result := finish 6 (returnFromException s)

/-- CLD: `D <- 0` (44 R242). -/
def execCld (s : State) : Result := finish 2 (s.setP (setFlag .D false s.p))

/-- SED: `D <- 1` (44 R243). -/
def execSed (s : State) : Result := finish 2 (s.setP (setFlag .D true s.p))

/-- NOP: nothing beyond the fetch (44 R244). -/
def execNop (s : State) : Result := finish 2 s

end Sys2Proof.Machine
end

