-- ==== Sys2Proof/Machine/Dispatch.lean ====
section
/-! DEFINITION. One arm per constructor of `Instr`, each one call of its meaning. The state is the one
after the fetch: `PC` is at the next instruction (30_encoding.md R100; log entry 1). -/

namespace Sys2Proof.Machine

def exec (i : Instr) (s : State) : Host.Outcome State Fault Refusal :=
  match i with
  | .ldaIndX b => Sys2Proof.Machine.execLdaIndX b s
  | .ldaZp b => Sys2Proof.Machine.execLdaZp b s
  | .ldaImm b => Sys2Proof.Machine.execLdaImm b s
  | .ldaAbs w => Sys2Proof.Machine.execLdaAbs w s
  | .ldaIndY b => Sys2Proof.Machine.execLdaIndY b s
  | .ldaZpX b => Sys2Proof.Machine.execLdaZpX b s
  | .ldaAbsY w => Sys2Proof.Machine.execLdaAbsY w s
  | .ldaAbsX w => Sys2Proof.Machine.execLdaAbsX w s
  | .ldxImm b => Sys2Proof.Machine.execLdxImm b s
  | .ldxZp b => Sys2Proof.Machine.execLdxZp b s
  | .ldxAbs w => Sys2Proof.Machine.execLdxAbs w s
  | .ldxZpY b => Sys2Proof.Machine.execLdxZpY b s
  | .ldxAbsY w => Sys2Proof.Machine.execLdxAbsY w s
  | .ldyImm b => Sys2Proof.Machine.execLdyImm b s
  | .ldyZp b => Sys2Proof.Machine.execLdyZp b s
  | .ldyAbs w => Sys2Proof.Machine.execLdyAbs w s
  | .ldyZpX b => Sys2Proof.Machine.execLdyZpX b s
  | .ldyAbsX w => Sys2Proof.Machine.execLdyAbsX w s
  | .staIndX b => Sys2Proof.Machine.execStaIndX b s
  | .staZp b => Sys2Proof.Machine.execStaZp b s
  | .staAbs w => Sys2Proof.Machine.execStaAbs w s
  | .staIndY b => Sys2Proof.Machine.execStaIndY b s
  | .staZpX b => Sys2Proof.Machine.execStaZpX b s
  | .staAbsY w => Sys2Proof.Machine.execStaAbsY w s
  | .staAbsX w => Sys2Proof.Machine.execStaAbsX w s
  | .stxZp b => Sys2Proof.Machine.execStxZp b s
  | .stxAbs w => Sys2Proof.Machine.execStxAbs w s
  | .stxZpY b => Sys2Proof.Machine.execStxZpY b s
  | .styZp b => Sys2Proof.Machine.execStyZp b s
  | .styAbs w => Sys2Proof.Machine.execStyAbs w s
  | .styZpX b => Sys2Proof.Machine.execStyZpX b s
  | .tax => Sys2Proof.Machine.execTax s
  | .tay => Sys2Proof.Machine.execTay s
  | .txa => Sys2Proof.Machine.execTxa s
  | .tya => Sys2Proof.Machine.execTya s
  | .tsx => Sys2Proof.Machine.execTsx s
  | .txs => Sys2Proof.Machine.execTxs s
  | .adcIndX b => Sys2Proof.Machine.execAdcIndX b s
  | .adcZp b => Sys2Proof.Machine.execAdcZp b s
  | .adcImm b => Sys2Proof.Machine.execAdcImm b s
  | .adcAbs w => Sys2Proof.Machine.execAdcAbs w s
  | .adcIndY b => Sys2Proof.Machine.execAdcIndY b s
  | .adcZpX b => Sys2Proof.Machine.execAdcZpX b s
  | .adcAbsY w => Sys2Proof.Machine.execAdcAbsY w s
  | .adcAbsX w => Sys2Proof.Machine.execAdcAbsX w s
  | .sbcIndX b => Sys2Proof.Machine.execSbcIndX b s
  | .sbcZp b => Sys2Proof.Machine.execSbcZp b s
  | .sbcImm b => Sys2Proof.Machine.execSbcImm b s
  | .sbcAbs w => Sys2Proof.Machine.execSbcAbs w s
  | .sbcIndY b => Sys2Proof.Machine.execSbcIndY b s
  | .sbcZpX b => Sys2Proof.Machine.execSbcZpX b s
  | .sbcAbsY w => Sys2Proof.Machine.execSbcAbsY w s
  | .sbcAbsX w => Sys2Proof.Machine.execSbcAbsX w s
  | .andIndX b => Sys2Proof.Machine.execAndIndX b s
  | .andZp b => Sys2Proof.Machine.execAndZp b s
  | .andImm b => Sys2Proof.Machine.execAndImm b s
  | .andAbs w => Sys2Proof.Machine.execAndAbs w s
  | .andIndY b => Sys2Proof.Machine.execAndIndY b s
  | .andZpX b => Sys2Proof.Machine.execAndZpX b s
  | .andAbsY w => Sys2Proof.Machine.execAndAbsY w s
  | .andAbsX w => Sys2Proof.Machine.execAndAbsX w s
  | .oraIndX b => Sys2Proof.Machine.execOraIndX b s
  | .oraZp b => Sys2Proof.Machine.execOraZp b s
  | .oraImm b => Sys2Proof.Machine.execOraImm b s
  | .oraAbs w => Sys2Proof.Machine.execOraAbs w s
  | .oraIndY b => Sys2Proof.Machine.execOraIndY b s
  | .oraZpX b => Sys2Proof.Machine.execOraZpX b s
  | .oraAbsY w => Sys2Proof.Machine.execOraAbsY w s
  | .oraAbsX w => Sys2Proof.Machine.execOraAbsX w s
  | .eorIndX b => Sys2Proof.Machine.execEorIndX b s
  | .eorZp b => Sys2Proof.Machine.execEorZp b s
  | .eorImm b => Sys2Proof.Machine.execEorImm b s
  | .eorAbs w => Sys2Proof.Machine.execEorAbs w s
  | .eorIndY b => Sys2Proof.Machine.execEorIndY b s
  | .eorZpX b => Sys2Proof.Machine.execEorZpX b s
  | .eorAbsY w => Sys2Proof.Machine.execEorAbsY w s
  | .eorAbsX w => Sys2Proof.Machine.execEorAbsX w s
  | .cmpIndX b => Sys2Proof.Machine.execCmpIndX b s
  | .cmpZp b => Sys2Proof.Machine.execCmpZp b s
  | .cmpImm b => Sys2Proof.Machine.execCmpImm b s
  | .cmpAbs w => Sys2Proof.Machine.execCmpAbs w s
  | .cmpIndY b => Sys2Proof.Machine.execCmpIndY b s
  | .cmpZpX b => Sys2Proof.Machine.execCmpZpX b s
  | .cmpAbsY w => Sys2Proof.Machine.execCmpAbsY w s
  | .cmpAbsX w => Sys2Proof.Machine.execCmpAbsX w s
  | .cpxImm b => Sys2Proof.Machine.execCpxImm b s
  | .cpxZp b => Sys2Proof.Machine.execCpxZp b s
  | .cpxAbs w => Sys2Proof.Machine.execCpxAbs w s
  | .cpyImm b => Sys2Proof.Machine.execCpyImm b s
  | .cpyZp b => Sys2Proof.Machine.execCpyZp b s
  | .cpyAbs w => Sys2Proof.Machine.execCpyAbs w s
  | .bitZp b => Sys2Proof.Machine.execBitZp b s
  | .bitAbs w => Sys2Proof.Machine.execBitAbs w s
  | .incZp b => Sys2Proof.Machine.execIncZp b s
  | .incAbs w => Sys2Proof.Machine.execIncAbs w s
  | .incZpX b => Sys2Proof.Machine.execIncZpX b s
  | .incAbsX w => Sys2Proof.Machine.execIncAbsX w s
  | .decZp b => Sys2Proof.Machine.execDecZp b s
  | .decAbs w => Sys2Proof.Machine.execDecAbs w s
  | .decZpX b => Sys2Proof.Machine.execDecZpX b s
  | .decAbsX w => Sys2Proof.Machine.execDecAbsX w s
  | .inx => Sys2Proof.Machine.execInx s
  | .iny => Sys2Proof.Machine.execIny s
  | .dex => Sys2Proof.Machine.execDex s
  | .dey => Sys2Proof.Machine.execDey s
  | .aslZp b => Sys2Proof.Machine.execAslZp b s
  | .aslAcc => Sys2Proof.Machine.execAslAcc s
  | .aslAbs w => Sys2Proof.Machine.execAslAbs w s
  | .aslZpX b => Sys2Proof.Machine.execAslZpX b s
  | .aslAbsX w => Sys2Proof.Machine.execAslAbsX w s
  | .lsrZp b => Sys2Proof.Machine.execLsrZp b s
  | .lsrAcc => Sys2Proof.Machine.execLsrAcc s
  | .lsrAbs w => Sys2Proof.Machine.execLsrAbs w s
  | .lsrZpX b => Sys2Proof.Machine.execLsrZpX b s
  | .lsrAbsX w => Sys2Proof.Machine.execLsrAbsX w s
  | .rolZp b => Sys2Proof.Machine.execRolZp b s
  | .rolAcc => Sys2Proof.Machine.execRolAcc s
  | .rolAbs w => Sys2Proof.Machine.execRolAbs w s
  | .rolZpX b => Sys2Proof.Machine.execRolZpX b s
  | .rolAbsX w => Sys2Proof.Machine.execRolAbsX w s
  | .rorZp b => Sys2Proof.Machine.execRorZp b s
  | .rorAcc => Sys2Proof.Machine.execRorAcc s
  | .rorAbs w => Sys2Proof.Machine.execRorAbs w s
  | .rorZpX b => Sys2Proof.Machine.execRorZpX b s
  | .rorAbsX w => Sys2Proof.Machine.execRorAbsX w s
  | .jmpAbs w => Sys2Proof.Machine.execJmpAbs w s
  | .jmpInd w => Sys2Proof.Machine.execJmpInd w s
  | .jsr w => Sys2Proof.Machine.execJsr w s
  | .rts => Sys2Proof.Machine.execRts s
  | .bcc b => Sys2Proof.Machine.execBcc b s
  | .bcs b => Sys2Proof.Machine.execBcs b s
  | .beq b => Sys2Proof.Machine.execBeq b s
  | .bne b => Sys2Proof.Machine.execBne b s
  | .bmi b => Sys2Proof.Machine.execBmi b s
  | .bpl b => Sys2Proof.Machine.execBpl b s
  | .bvc b => Sys2Proof.Machine.execBvc b s
  | .bvs b => Sys2Proof.Machine.execBvs b s
  | .pha => Sys2Proof.Machine.execPha s
  | .pla => Sys2Proof.Machine.execPla s
  | .php => Sys2Proof.Machine.execPhp s
  | .plp => Sys2Proof.Machine.execPlp s
  | .clc => Sys2Proof.Machine.execClc s
  | .sec => Sys2Proof.Machine.execSec s
  | .cli => Sys2Proof.Machine.execCli s
  | .sei => Sys2Proof.Machine.execSei s
  | .clv => Sys2Proof.Machine.execClv s
  | .brk => Sys2Proof.Machine.execBrk s
  | .rti => Sys2Proof.Machine.execRti s
  | .cld => Sys2Proof.Machine.execCld s
  | .sed => Sys2Proof.Machine.execSed s
  | .nop => Sys2Proof.Machine.execNop s
  | .illegal02 => Sys2Proof.Machine.execIllegal02 s
  | .illegal03 => Sys2Proof.Machine.execIllegal03 s
  | .illegal04 => Sys2Proof.Machine.execIllegal04 s
  | .illegal07 => Sys2Proof.Machine.execIllegal07 s
  | .illegal0B => Sys2Proof.Machine.execIllegal0B s
  | .illegal0C => Sys2Proof.Machine.execIllegal0C s
  | .illegal0F => Sys2Proof.Machine.execIllegal0F s
  | .illegal12 => Sys2Proof.Machine.execIllegal12 s
  | .illegal13 => Sys2Proof.Machine.execIllegal13 s
  | .illegal14 => Sys2Proof.Machine.execIllegal14 s
  | .illegal17 => Sys2Proof.Machine.execIllegal17 s
  | .illegal1A => Sys2Proof.Machine.execIllegal1A s
  | .illegal1B => Sys2Proof.Machine.execIllegal1B s
  | .illegal1C => Sys2Proof.Machine.execIllegal1C s
  | .illegal1F => Sys2Proof.Machine.execIllegal1F s
  | .illegal22 => Sys2Proof.Machine.execIllegal22 s
  | .illegal23 => Sys2Proof.Machine.execIllegal23 s
  | .illegal27 => Sys2Proof.Machine.execIllegal27 s
  | .illegal2B => Sys2Proof.Machine.execIllegal2B s
  | .illegal2F => Sys2Proof.Machine.execIllegal2F s
  | .illegal32 => Sys2Proof.Machine.execIllegal32 s
  | .illegal33 => Sys2Proof.Machine.execIllegal33 s
  | .illegal34 => Sys2Proof.Machine.execIllegal34 s
  | .illegal37 => Sys2Proof.Machine.execIllegal37 s
  | .illegal3A => Sys2Proof.Machine.execIllegal3A s
  | .illegal3B => Sys2Proof.Machine.execIllegal3B s
  | .illegal3C => Sys2Proof.Machine.execIllegal3C s
  | .illegal3F => Sys2Proof.Machine.execIllegal3F s
  | .illegal42 => Sys2Proof.Machine.execIllegal42 s
  | .illegal43 => Sys2Proof.Machine.execIllegal43 s
  | .illegal44 => Sys2Proof.Machine.execIllegal44 s
  | .illegal47 => Sys2Proof.Machine.execIllegal47 s
  | .illegal4B => Sys2Proof.Machine.execIllegal4B s
  | .illegal4F => Sys2Proof.Machine.execIllegal4F s
  | .illegal52 => Sys2Proof.Machine.execIllegal52 s
  | .illegal53 => Sys2Proof.Machine.execIllegal53 s
  | .illegal54 => Sys2Proof.Machine.execIllegal54 s
  | .illegal57 => Sys2Proof.Machine.execIllegal57 s
  | .illegal5A => Sys2Proof.Machine.execIllegal5A s
  | .illegal5B => Sys2Proof.Machine.execIllegal5B s
  | .illegal5C => Sys2Proof.Machine.execIllegal5C s
  | .illegal5F => Sys2Proof.Machine.execIllegal5F s
  | .illegal62 => Sys2Proof.Machine.execIllegal62 s
  | .illegal63 => Sys2Proof.Machine.execIllegal63 s
  | .illegal64 => Sys2Proof.Machine.execIllegal64 s
  | .illegal67 => Sys2Proof.Machine.execIllegal67 s
  | .illegal6B => Sys2Proof.Machine.execIllegal6B s
  | .illegal6F => Sys2Proof.Machine.execIllegal6F s
  | .illegal72 => Sys2Proof.Machine.execIllegal72 s
  | .illegal73 => Sys2Proof.Machine.execIllegal73 s
  | .illegal74 => Sys2Proof.Machine.execIllegal74 s
  | .illegal77 => Sys2Proof.Machine.execIllegal77 s
  | .illegal7A => Sys2Proof.Machine.execIllegal7A s
  | .illegal7B => Sys2Proof.Machine.execIllegal7B s
  | .illegal7C => Sys2Proof.Machine.execIllegal7C s
  | .illegal7F => Sys2Proof.Machine.execIllegal7F s
  | .illegal80 => Sys2Proof.Machine.execIllegal80 s
  | .illegal82 => Sys2Proof.Machine.execIllegal82 s
  | .illegal83 => Sys2Proof.Machine.execIllegal83 s
  | .illegal87 => Sys2Proof.Machine.execIllegal87 s
  | .illegal89 => Sys2Proof.Machine.execIllegal89 s
  | .illegal8B => Sys2Proof.Machine.execIllegal8B s
  | .illegal8F => Sys2Proof.Machine.execIllegal8F s
  | .illegal92 => Sys2Proof.Machine.execIllegal92 s
  | .illegal93 => Sys2Proof.Machine.execIllegal93 s
  | .illegal97 => Sys2Proof.Machine.execIllegal97 s
  | .illegal9B => Sys2Proof.Machine.execIllegal9B s
  | .illegal9C => Sys2Proof.Machine.execIllegal9C s
  | .illegal9E => Sys2Proof.Machine.execIllegal9E s
  | .illegal9F => Sys2Proof.Machine.execIllegal9F s
  | .illegalA3 => Sys2Proof.Machine.execIllegalA3 s
  | .illegalA7 => Sys2Proof.Machine.execIllegalA7 s
  | .illegalAB => Sys2Proof.Machine.execIllegalAB s
  | .illegalAF => Sys2Proof.Machine.execIllegalAF s
  | .illegalB2 => Sys2Proof.Machine.execIllegalB2 s
  | .illegalB3 => Sys2Proof.Machine.execIllegalB3 s
  | .illegalB7 => Sys2Proof.Machine.execIllegalB7 s
  | .illegalBB => Sys2Proof.Machine.execIllegalBB s
  | .illegalBF => Sys2Proof.Machine.execIllegalBF s
  | .illegalC2 => Sys2Proof.Machine.execIllegalC2 s
  | .illegalC3 => Sys2Proof.Machine.execIllegalC3 s
  | .illegalC7 => Sys2Proof.Machine.execIllegalC7 s
  | .illegalCB => Sys2Proof.Machine.execIllegalCB s
  | .illegalCF => Sys2Proof.Machine.execIllegalCF s
  | .illegalD2 => Sys2Proof.Machine.execIllegalD2 s
  | .illegalD3 => Sys2Proof.Machine.execIllegalD3 s
  | .illegalD4 => Sys2Proof.Machine.execIllegalD4 s
  | .illegalD7 => Sys2Proof.Machine.execIllegalD7 s
  | .illegalDA => Sys2Proof.Machine.execIllegalDA s
  | .illegalDB => Sys2Proof.Machine.execIllegalDB s
  | .illegalDC => Sys2Proof.Machine.execIllegalDC s
  | .illegalDF => Sys2Proof.Machine.execIllegalDF s
  | .illegalE2 => Sys2Proof.Machine.execIllegalE2 s
  | .illegalE3 => Sys2Proof.Machine.execIllegalE3 s
  | .illegalE7 => Sys2Proof.Machine.execIllegalE7 s
  | .illegalEB => Sys2Proof.Machine.execIllegalEB s
  | .illegalEF => Sys2Proof.Machine.execIllegalEF s
  | .illegalF2 => Sys2Proof.Machine.execIllegalF2 s
  | .illegalF3 => Sys2Proof.Machine.execIllegalF3 s
  | .illegalF4 => Sys2Proof.Machine.execIllegalF4 s
  | .illegalF7 => Sys2Proof.Machine.execIllegalF7 s
  | .illegalFA => Sys2Proof.Machine.execIllegalFA s
  | .illegalFB => Sys2Proof.Machine.execIllegalFB s
  | .illegalFC => Sys2Proof.Machine.execIllegalFC s
  | .illegalFF => Sys2Proof.Machine.execIllegalFF s

end Sys2Proof.Machine
end

