-- ==== Sys2Proof/Machine/PpuScroll.lean ====
section
/-! DEFINITION. Scroll arithmetic on `v` and the background pipeline (62_ppu.md R334 to R343). -/

namespace Sys2Proof.Machine

/-- `rendering_enabled()`: `mask[3] == 1 or mask[4] == 1` (62_ppu.md R334). -/
def Ppu.renderingEnabled (p : Ppu) : Bool := bitOf p.mask 3 || bitOf p.mask 4

/-- Coarse X, `v[4:0]` (10_state.md R36). -/
def coarseX (v : VramReg) : VramReg := v &&& 0x001F#15

/-- Coarse Y in place, `v[9:5]` (10_state.md R36). -/
def coarseYBits (v : VramReg) : VramReg := v &&& 0x03E0#15

/-- Fine Y, `v[14:12]` (10_state.md R36). -/
def fineY (v : VramReg) : BitVec 3 := v.extractLsb' 12 3

/-- `inc_x()` (62_ppu.md R340). -/
def incX (v : VramReg) : VramReg :=
  if coarseX v = 31#15 then (v &&& 0x7FE0#15) ^^^ 0x0400#15 else v + 1#15

/-- `inc_y()` (62_ppu.md R341). -/
def incY (v : VramReg) : VramReg :=
  if fineY v ≠ 7#3 then v + 0x1000#15
  else
    let w := v &&& 0x0FFF#15
    if coarseYBits v = 0x03A0#15 then (w &&& 0x7C1F#15) ^^^ 0x0800#15
    else if coarseYBits v = 0x03E0#15 then w &&& 0x7C1F#15
    else w + 0x0020#15

/-- `copy_horizontal()`: `v <- (v & 0x7BE0) | (t & 0x041F)` (62_ppu.md R342). -/
def copyHorizontal (v t : VramReg) : VramReg := (v &&& 0x7BE0#15) ||| (t &&& 0x041F#15)

/-- `copy_vertical()`: `v <- (v & 0x041F) | (t & 0x7BE0)` (62_ppu.md R343). -/
def copyVertical (v t : VramReg) : VramReg := (v &&& 0x041F#15) ||| (t &&& 0x7BE0#15)

/-- The nametable fetch address (62_ppu.md R336). -/
def nametableAddr (v : VramReg) : PpuAddr := 0x2000#14 ||| (v &&& 0x0FFF#15).setWidth 14

/-- The attribute fetch address (62_ppu.md R337). -/
def attributeAddr (v : VramReg) : PpuAddr :=
  (0x23C0#15 ||| (v &&& 0x0C00#15) ||| ((v >>> 4) &&& 0x0038#15) ||| ((v >>> 2) &&& 0x0007#15)).setWidth 14

/-- Where the tile's two attribute bits stand in the attribute byte (62_ppu.md R337). -/
def attributeShift (v : VramReg) : Nat := (((v >>> 4) &&& 4#15) ||| (v &&& 2#15)).toNat

/-- A pattern row address in the half `half` (0x0000 or 0x1000): `(half << 12) | (tile << 4) | row`
(62_ppu.md R314, R338, R347). -/
def patternAddr (half : Bool) (tile : Byte) (row : Nat) : PpuAddr :=
  (if half then 0x1000#14 else 0x0000#14) ||| (tile.setWidth 14 <<< 4) ||| BitVec.ofNat 14 row

/-- The low-plane pattern fetch address of the background (62_ppu.md R338). -/
def Ppu.bgPatternAddr (p : Ppu) : PpuAddr := patternAddr (bitOf p.ctrl 4) p.ntLatch (fineY p.v).toNat

/-- Step 1 of `bg_pipeline_step`: the four registers shift left by one (62_ppu.md R335). -/
def Ppu.shiftBackground (p : Ppu) : Ppu :=
  { p with bgPatLo := p.bgPatLo <<< 1, bgPatHi := p.bgPatHi <<< 1,
           bgAtLo := p.bgAtLo <<< 1, bgAtHi := p.bgAtHi <<< 1 }

/-- The low byte of a shift register replaced, the high byte kept (62_ppu.md R339). -/
def reloadLow (r : BitVec 16) (b : Byte) : BitVec 16 := (r &&& 0xFF00#16) ||| b.setWidth 16

/-- An attribute bit spread to eight copies (62_ppu.md R339). -/
def spread (b : Bool) : Byte := if b then 0xFF#8 else 0x00#8

/-- The reload and the X increment of the eighth dot (62_ppu.md R335, R339, R340). -/
def Ppu.reloadBackground (p : Ppu) : Ppu :=
  { p with bgPatLo := reloadLow p.bgPatLo p.patLoLatch, bgPatHi := reloadLow p.bgPatHi p.patHiLatch,
           bgAtLo := reloadLow p.bgAtLo (spread (bitOf p.atLatch 0)),
           bgAtHi := reloadLow p.bgAtHi (spread (bitOf p.atLatch 1)),
           v := incX p.v }

/-- Step 2 of `bg_pipeline_step`: the action at position `pos` of the 8-dot group (62_ppu.md R335). -/
def Ppu.bgAction (env : PpuEnv) (pos : Nat) (p : Ppu) : Ppu :=
  match pos with
  | 0 => { p with ntLatch := ppuRead env p (nametableAddr p.v) }
  | 2 => { p with atLatch := (ppuRead env p (attributeAddr p.v) >>> attributeShift p.v).setWidth 2 }
  | 4 => { p with patLoLatch := ppuRead env p p.bgPatternAddr }
  | 6 => { p with patHiLatch := ppuRead env p (p.bgPatternAddr + 8#14) }
  | 7 => p.reloadBackground
  | _ => p

/-- `bg_pipeline_step(d)` (62_ppu.md R335). -/
def Ppu.bgPipelineStep (env : PpuEnv) (d : Nat) (p : Ppu) : Ppu :=
  p.shiftBackground.bgAction env ((d - 1) % 8)

end Sys2Proof.Machine
end

