-- ==== Sys2Proof/Machine/PpuSprites.lean ====
section
/-! DEFINITION. Sprite evaluation and the fetch of the selected rows (62_ppu.md R345 to R348). -/

namespace Sys2Proof.Machine

/-- `height`: 16 if `ctrl[5]`, else 8 (62_ppu.md R345). -/
def Ppu.spriteHeight (p : Ppu) : Nat := if bitOf p.ctrl 5 then 16 else 8

/-- The test of one OAM entry against scanline `s`: `Y <= s and s < Y + height`, without wrap
(62_ppu.md R345). -/
def Ppu.entryMatches (p : Ppu) (s k : Nat) : Bool :=
  let y := (p.oam.read (4 * k)).toNat
  decide (y ≤ s) && decide (s < y + p.spriteHeight)

/-- `secondary_oam[4n .. 4n+3] <- oam[4k .. 4k+3]` (62_ppu.md R345). -/
def copyEntry (oam secondary : Memory) (k n : Nat) : Memory :=
  (((secondary.write (4 * n) (oam.read (4 * k))).write (4 * n + 1) (oam.read (4 * k + 1))).write
    (4 * n + 2) (oam.read (4 * k + 2))).write (4 * n + 3) (oam.read (4 * k + 3))

/-- The body of the scan for OAM entry `k`; the scan's `n` is `spriteCount` (62_ppu.md R345, R346). -/
def Ppu.evaluateEntry (s k : Nat) (p : Ppu) : Ppu :=
  if p.entryMatches s k then
    if p.spriteCount < 8 then
      { p with
        secondaryOam := copyEntry p.oam p.secondaryOam k p.spriteCount
        spriteZeroSelected := p.spriteZeroSelected || decide (k = 0)
        spriteCount := p.spriteCount + 1 }
    else { p with status := p.status ||| 0x20#8 }
  else p

/-- The scan of the first `k` OAM entries, in order (62_ppu.md R345). -/
def Ppu.scanEntries (s : Nat) : Nat → Ppu → Ppu
  | 0, p => p
  | k + 1, p => (p.scanEntries s k).evaluateEntry s k

/-- `secondary_oam[0..31] <- 0xFF` (62_ppu.md R345). -/
def secondaryOamCleared : Memory := Memory.ofBytes (List.replicate 32 0xFF#8)

/-- The row of the sprite that scanline `s` shows, after the vertical flip (62_ppu.md R347). -/
def spriteRow (height s y : Nat) (attr : Byte) : Nat :=
  if bitOf attr 7 then height - 1 - (s - y) else s - y

/-- The low-plane address of a sprite row: 8×8 uses `ctrl[3]`, 8×16 the tile's bit 0 (62_ppu.md R347). -/
def spriteAddr (height : Nat) (half : Bool) (tile : Byte) (row : Nat) : PpuAddr :=
  if height = 8 then patternAddr half tile row
  else if 8 ≤ row then patternAddr (bitOf tile 0) ((tile &&& 0xFE#8) + 0x01#8) (row - 8)
  else patternAddr (bitOf tile 0) (tile &&& 0xFE#8) row

/-- The horizontal flip of a fetched row (62_ppu.md R347). -/
def flipRow (attr b : Byte) : Byte := if bitOf attr 6 then reverseBits8 b else b

/-- `fetch_sprite(i, s)` (62_ppu.md R347). -/
def Ppu.fetchSprite (env : PpuEnv) (s i : Nat) (p : Ppu) : Ppu :=
  let y := p.secondaryOam.read (4 * i)
  let tile := p.secondaryOam.read (4 * i + 1)
  let attr := p.secondaryOam.read (4 * i + 2)
  let x := p.secondaryOam.read (4 * i + 3)
  let addr := spriteAddr p.spriteHeight (bitOf p.ctrl 3) tile (spriteRow p.spriteHeight s y.toNat attr)
  let unit : SpriteUnit :=
    { patLo := flipRow attr (ppuRead env p addr), patHi := flipRow attr (ppuRead env p (addr + 8#14)),
      attr := attr, x := x }
  { p with sprites := p.sprites.setIfInBounds i unit }

/-- The fetches of the first `n` selected sprites, in order (62_ppu.md R345, R347). -/
def Ppu.fetchSprites (env : PpuEnv) (s : Nat) : Nat → Ppu → Ppu
  | 0, p => p
  | n + 1, p => (p.fetchSprites env s n).fetchSprite env s n

/-- `sprite_count <- 0; sprite_zero_selected <- false` (62_ppu.md R345, R348). -/
def Ppu.clearSelection (p : Ppu) : Ppu := { p with spriteCount := 0, spriteZeroSelected := false }

/-- `evaluate_sprites(s)` (62_ppu.md R345). -/
def Ppu.evaluateSprites (env : PpuEnv) (s : Nat) (p : Ppu) : Ppu :=
  let p1 := ({ p with secondaryOam := secondaryOamCleared }).clearSelection
  let p2 := p1.scanEntries s 64
  p2.fetchSprites env s p2.spriteCount

end Sys2Proof.Machine
end

