-- ==== Sys2Proof/Machine/PpuRender.lean ====
section
/-! DEFINITION. Pixel output and the tick (62_ppu.md R330 to R333, R350 to R353). -/

namespace Sys2Proof.Machine

/-- A pixel: its 2-bit value and its 2-bit palette number. -/
structure Pixel where
  px : BitVec 2
  pal : BitVec 2
  deriving DecidableEq, Repr

/-- The background pixel of column `x` (62_ppu.md R350). -/
def Ppu.backgroundPixel (p : Ppu) (x : Nat) : Pixel :=
  let sel := 15 - p.fineX.toNat
  let shown := bitOf p.mask 3 && (decide (8 ≤ x) || bitOf p.mask 1)
  { px := if shown then twoBits (bitOf p.bgPatHi sel) (bitOf p.bgPatLo sel) else 0#2
    pal := twoBits (bitOf p.bgAtHi sel) (bitOf p.bgAtLo sel) }

/-- The sprite pixel of a column: an opaque pixel of one of the selected sprites. -/
structure SpritePixel where
  pixel : Pixel
  behind : Bool
  isZero : Bool
  deriving DecidableEq, Repr

/-- The 2-bit value of a sprite unit at column `x`; 0 outside its eight columns (62_ppu.md R351). -/
def SpriteUnit.valueAt (u : SpriteUnit) (x : Nat) : BitVec 2 :=
  if u.x.toNat ≤ x ∧ x - u.x.toNat ≤ 7 then
    twoBits (bitOf u.patHi (7 - (x - u.x.toNat))) (bitOf u.patLo (7 - (x - u.x.toNat)))
  else 0#2

/-- The first opaque sprite pixel at column `x` among units numbered from `i` (62_ppu.md R351). -/
def firstOpaque (zeroSelected : Bool) (x : Nat) : Nat → List SpriteUnit → Option SpritePixel
  | _, [] => none
  | i, u :: us =>
    if u.valueAt x ≠ 0#2 then
      some { pixel := { px := u.valueAt x, pal := u.attr.setWidth 2 }, behind := bitOf u.attr 5,
             isZero := decide (i = 0) && zeroSelected }
    else firstOpaque zeroSelected x (i + 1) us

/-- The sprite pixel of column `x`, after the enable and the left clipping (62_ppu.md R351). -/
def Ppu.spritePixel (p : Ppu) (x : Nat) : Option SpritePixel :=
  if bitOf p.mask 4 && (decide (8 ≤ x) || bitOf p.mask 2) then
    firstOpaque p.spriteZeroSelected x 0 (p.sprites.toList.take p.spriteCount)
  else none

/-- The palette index of a background pixel, `(bg_pal << 2) | bg_px` (62_ppu.md R352). -/
def bgIndex (b : Pixel) : PpuAddr := (0#1 ++ b.pal ++ b.px).setWidth 14

/-- The palette index of a sprite pixel, `0x10 | (sp_pal << 2) | sp_px` (62_ppu.md R352). -/
def spriteIndex (b : Pixel) : PpuAddr := (1#1 ++ b.pal ++ b.px).setWidth 14

/-- The composed palette index of a background and a sprite pixel (62_ppu.md R352). -/
def composeIndex (bg : Pixel) (sp : Option SpritePixel) : PpuAddr :=
  match sp with
  | none => if bg.px = 0#2 then 0x0000#14 else bgIndex bg
  | some q =>
    if bg.px = 0#2 then spriteIndex q.pixel
    else if q.behind then bgIndex bg
    else spriteIndex q.pixel

/-- Sprite-zero hit: both pixels opaque, the sprite is OAM entry 0, and the column is not 255
(62_ppu.md R353). -/
def spriteZeroHit (bg : Pixel) (sp : Option SpritePixel) (x : Nat) : Bool :=
  match sp with
  | none => false
  | some q => decide (bg.px ≠ 0#2) && q.isZero && decide (x ≠ 255)

/-- The key of `framebuffer[y][x]`. -/
def framebufferKey (y x : Nat) : Nat := 256 * y + x

/-- `output_pixel(x)` on visible scanline `s` (62_ppu.md R352). -/
def Ppu.outputPixel (s x : Nat) (p : Ppu) : Ppu :=
  let bg := p.backgroundPixel x
  let sp := p.spritePixel x
  { p with
    status := if spriteZeroHit bg sp x then p.status ||| 0x40#8 else p.status
    framebuffer := p.framebuffer.write (framebufferKey s x) (p.palette.read (palIndex (composeIndex bg sp))) }

/-- At `(-1, 1)`: `status <- status & 0x1F` (62_ppu.md R332). -/
def Ppu.clearFlags (p : Ppu) : Ppu := { p with status := p.status &&& 0x1F#8 }

/-- At `(241, 1)`: the VBlank flag, and the NMI request if `ctrl[7]` (62_ppu.md R331). -/
def Ppu.startVBlank (p : Ppu) : Ppu :=
  { p with status := p.status ||| 0x80#8, nmiPending := p.nmiPending || bitOf p.ctrl 7 }

/-- The scroll updates and the background step of a render line with rendering enabled: the four
lines under `rendering_enabled()` in `ppu_tick` (62_ppu.md R330). -/
def Ppu.renderFetch (env : PpuEnv) (s : Int) (d : Nat) (p : Ppu) : Ppu :=
  let p1 := if (1 ≤ d ∧ d ≤ 256) ∨ (321 ≤ d ∧ d ≤ 336) then p.bgPipelineStep env d else p
  let p2 := if d = 256 then { p1 with v := incY p1.v } else p1
  let p3 := if d = 257 then { p2 with v := copyHorizontal p2.v p2.t } else p2
  if s = -1 ∧ 280 ≤ d ∧ d ≤ 304 then { p3 with v := copyVertical p3.v p3.t } else p3

/-- The sprite work of dot 257 (62_ppu.md R330, R345, R348). -/
def Ppu.spriteDot (env : PpuEnv) (s : Int) (p : Ppu) : Ppu :=
  if p.renderingEnabled && decide (0 ≤ s) then p.evaluateSprites env s.toNat else p.clearSelection

/-- What a render line does at dot `d` (62_ppu.md R330). -/
def Ppu.renderDot (env : PpuEnv) (s : Int) (d : Nat) (p : Ppu) : Ppu :=
  let p1 := if 0 ≤ s ∧ 1 ≤ d ∧ d ≤ 256 then p.outputPixel s.toNat (d - 1) else p
  let p2 := if p1.renderingEnabled then p1.renderFetch env s d else p1
  if d = 257 then p2.spriteDot env s else p2

/-- `advance_counters()` (62_ppu.md R333). -/
def Ppu.advanceCounters (p : Ppu) : Ppu :=
  if p.dot + 1 = 341 then
    if p.scanline + 1 = 261 then { p with dot := 0, scanline := -1, frameCount := p.frameCount + 1 }
    else { p with dot := 0, scanline := p.scanline + 1 }
  else { p with dot := p.dot + 1 }

/-- The actions of the current `(scanline, dot)`, before the counters move (62_ppu.md R330). -/
def Ppu.dotActions (env : PpuEnv) (p : Ppu) : Ppu :=
  let s := p.scanline
  let d := p.dot
  let p1 := if s = -1 ∧ d = 1 then p.clearFlags else p
  let p2 := if s = 241 ∧ d = 1 then p1.startVBlank else p1
  if s ≤ 239 then p2.renderDot env s d else p2

/-- `ppu_tick()` on the PPU (62_ppu.md R330). -/
def Ppu.tick (env : PpuEnv) (p : Ppu) : Ppu := (p.dotActions env).advanceCounters

/-- `ppu_tick()` on the machine: only the PPU changes. -/
def ppuTick (s : State) : State := s.setPpu (s.ppu.tick s.ppuEnv)

/-- `repeat n times: ppu_tick()` (60_exceptions.md R270). -/
def ppuTicks : Nat → State → State
  | 0, s => s
  | n + 1, s => ppuTicks n (ppuTick s)

end Sys2Proof.Machine
end

