-- ==== Sys2Proof/Machine/System.lean ====
section
/-! DEFINITION. What the System's stepping loop does around one instruction (60_exceptions.md R260,
R270), and placing an instruction where the next step fetches it. -/

namespace Sys2Proof.Machine

/-- Checks (1) and (2) before an instruction: NMI first, then IRQ if `irq_line` and `I = 0`; the state
after the sequence, or none when an instruction runs (60_exceptions.md R260, R270). -/
def takePending (s : State) : Option State :=
  if s.ppu.nmiPending then some (nmi (s.setPpu { s.ppu with nmiPending := false }))
  else if s.irqLine && !getFlag .I s.p then some (irq s)
  else none

/-- The PPU's catch-up: three dots for each cycle consumed since the counter was `cyclesBefore`
(60_exceptions.md R270). -/
def catchUp (cyclesBefore : Nat) (s : State) : State := ppuTicks (3 * (s.cycles - cyclesBefore)) s

/-- What follows an instruction: the catch-up after one that completed, nothing after a fault
(60_exceptions.md R270, R273). -/
def afterInstr (cyclesBefore : Nat) : Result → Result
  | .next s => .next (catchUp cyclesBefore s)
  | .fault r => .fault r
  | .refused r => .refused r

/-- `step_instruction()` (60_exceptions.md R270). -/
def stepInstruction (s : State) : Result :=
  match takePending s with
  | some s' => .next (catchUp s.cycles s')
  | none => afterInstr s.cycles (exec (fetchInstr s).1 (fetchInstr s).2)

/-- The state an `IllegalOpcode` fault of the next step leaves: `PC` incremented once and the opcode
fetch's own side effect, nothing else (60_exceptions.md R251). -/
def stateAtFault (s : State) : State := (fetchByte s).2

/-! ## Placing an instruction (log entry 7) -/

/-- An address whose content is plain memory: work RAM, cartridge RAM or PRG ROM (20_memory.md R51). -/
def isMemoryAddr (addr : Word) : Bool := decide (addr.toNat < 0x2000) || decide (0x6000 ≤ addr.toNat)

/-- Puts a byte at a memory address, PRG ROM included, as a loader or a test bench does. -/
def placeByte (addr : Word) (v : Byte) (s : State) : State :=
  let n := addr.toNat
  if n < 0x2000 then s.setRam (s.ram.write (n % 0x0800) v)
  else if n < 0x6000 then s
  else if n < 0x8000 then s.setPrgRam (s.prgRam.write (n - 0x6000) v)
  else s.setCart { s.cart with prgRom := s.cart.prgRom.write (s.cart.prgIndex addr) v }

/-- Puts bytes at ascending addresses. -/
def placeBytes : Word → List Byte → State → State
  | _, [], s => s
  | addr, v :: bytes, s => placeBytes (addr + 1#16) bytes (placeByte addr v s)

/-- Where the next instruction is placed: at `PC` when its three bytes are plain memory there, else at
0x8000, the start of PRG ROM. -/
def placementAddr (pc : Word) : Word :=
  if isMemoryAddr pc && isMemoryAddr (pc + 1#16) && isMemoryAddr (pc + 2#16) then pc else 0x8000#16

/-- No interrupt sequence comes before the next instruction: no NMI request, and `irq_line` low unless
`I` masks it. -/
def withoutPending (s : State) : State :=
  (s.setPpu { s.ppu with nmiPending := false }).setIrqLine (s.irqLine && getFlag .I s.p)

/-- The state whose next step fetches and runs `bytes`. -/
def withNextInstr (bytes : List Byte) (s : State) : State :=
  placeBytes (placementAddr s.pc) bytes ((withoutPending s).setPc (placementAddr s.pc))

end Sys2Proof.Machine
end

