-- ==== Sys2Proof/Machine/Step.lean ====
section
/-! DEFINITION. One step of the machine: `step_instruction()` (60_exceptions.md R270). -/

namespace Sys2Proof.Machine

/-- One interrupt sequence or one instruction, followed by the PPU's catch-up (60_exceptions.md R270). -/
def step (s : State) : Host.Outcome State Fault Refusal := stepInstruction s

/-- The instruction whose bits are `w` (numbered as spec/opcode_table.json numbers them) placed where
the next step fetches (log entry 7). -/
def State.withFetchWord (s : State) (nbits w : Nat) : State := withNextInstr (tableWordBytes nbits w) s

end Sys2Proof.Machine
end

