-- ==== Sys2Proof/Machine/Loader.lean ====
section
/-! DEFINITION. Power-on, the soft reset and loading an iNES image (70_reset_and_hazards.md R380 to
R387). -/

namespace Sys2Proof.Machine

open Sys2Proof.Config (Mirroring LaunchParams)

/-- `reset()`, the soft reset (70_reset_and_hazards.md R381). -/
def softReset (s : State) : State :=
  let r := read16 resetVector s
  let s1 := (((r.2.setPc r.1).setSp 0xFD#8).setP 0x24#8).addCycles 8
  s1.setPpu
    { s1.ppu with
      ctrl := 0x00#8, mask := 0x00#8, writeToggle := false, readBuffer := 0x00#8
      t := 0x0000#15, fineX := 0#3, nmiPending := false }

/-- The state as constructed, before `reset()`: the power-on column of 10_state.md R40 and R41. The
spec gives `PC`, `SP` and `P` no value before `reset()`; they are 0 here and `reset()` writes all three. -/
def constructed (cart : Cartridge) (chr : Memory) (params : LaunchParams) : State :=
  { a := params.aInit, x := params.xInit, y := params.yInit, sp := 0x00#8, p := 0x00#8, pc := 0x0000#16,
    cycles := 0, ram := Memory.ofBytes (params.ramInit.take Config.ramSize),
    prgRam := Memory.ofBytes (params.prgRamInit.take Config.prgRamSize), chr := chr, cart := cart,
    ppu := { Ppu.powerOn with
      vram := Memory.ofBytes (params.vramInit.take Config.vramSize)
      palette := Memory.ofBytes ((params.paletteInit.take Config.paletteSize).map (· &&& 0x3F#8))
      oam := Memory.ofBytes (params.oamInit.take Config.oamSize)
      secondaryOam := Memory.ofBytes (params.secondaryOamInit.take Config.secondaryOamSize) }
    pad1 := Controller.powerOn, pad2 := Controller.powerOn, frameParity := false, irqLine := false,
    ctrlHighBits := params.ctrlHighBits }

/-- Power-on: construction, then `reset()` once (70_reset_and_hazards.md R380). -/
def powerOn (cart : Cartridge) (chr : Memory) (params : LaunchParams) : State :=
  softReset (constructed cart chr params)

/-! ## The image -/

/-- `RomError`: why an image is refused (70_reset_and_hazards.md R386). -/
inductive RomError where
  | badMagic
  | truncatedData
  | unsupportedMapper (id : Byte)
  deriving DecidableEq, Repr

/-- What `load` returns: a System, or an error and no System (70_reset_and_hazards.md R380). -/
inductive LoadResult where
  | system (s : State)
  | error (e : RomError)
  deriving DecidableEq, Repr

/-- Header fields of an iNES image (70_reset_and_hazards.md R384). -/
structure Header where
  prgBanks : Nat
  chrBanks : Nat
  mirroring : Mirroring
  fourScreen : Bool
  mapperId : Byte
  hasBattery : Bool
  hasTrainer : Bool
  deriving DecidableEq, Repr

/-- Byte `n` of the image. -/
def imageByte (image : List Byte) (n : Nat) : Byte := image.getD n 0x00#8

/-- The magic, bytes 0 to 3 (70_reset_and_hazards.md R384). -/
def magic : List Byte := [0x4E#8, 0x45#8, 0x53#8, 0x1A#8]

/-- Reads the header fields; byte 6 bit 0 is 0 for Vertical and 1 for Horizontal, as 90_conflicts.md C4
keeps it (70_reset_and_hazards.md R384). -/
def parseHeader (image : List Byte) : Header :=
  let flags := imageByte image 6
  { prgBanks := (imageByte image 4).toNat
    chrBanks := (imageByte image 5).toNat
    mirroring := if bitOf flags 0 then .horizontal else .vertical
    fourScreen := bitOf flags 3
    mapperId := (flags >>> 4) ||| (imageByte image 7 &&& 0xF0#8)
    hasBattery := bitOf flags 1
    hasTrainer := bitOf flags 2 }

/-- Where PRG ROM starts: 16, or 528 with a trainer (70_reset_and_hazards.md R385). -/
def Header.prgOffset (h : Header) : Nat := 16 + (if h.hasTrainer then 512 else 0)

/-- The bytes the declared banks need (70_reset_and_hazards.md R386). -/
def Header.imageSize (h : Header) : Nat :=
  h.prgOffset + Config.prgBankSize * h.prgBanks + Config.chrBankSize * h.chrBanks

/-- Whether NROM can hold the image: 1 or 2 PRG banks, 0 or 1 CHR bank, no four-screen mirroring
(70_reset_and_hazards.md R386). -/
def Header.fitsNrom (h : Header) : Bool :=
  (decide (h.prgBanks = 1) || decide (h.prgBanks = 2)) && decide (h.chrBanks ≤ 1) && !h.fourScreen

/-- The first load error of an image, in the order of the checks (70_reset_and_hazards.md R386). -/
def loadError (image : List Byte) : Option RomError :=
  let h := parseHeader image
  if image.take 4 ≠ magic then some .badMagic
  else if image.length < 16 ∨ image.length < h.imageSize then some .truncatedData
  else if h.mapperId ≠ 0x00#8 then some (.unsupportedMapper h.mapperId)
  else if !h.fitsNrom then some (.unsupportedMapper 0x00#8)
  else none

/-- `n` bytes of the image from `off` on. -/
def imageBytes (image : List Byte) (off n : Nat) : List Byte := (image.drop off).take n

/-- The cartridge of an image (70_reset_and_hazards.md R384, R385). -/
def cartridgeOf (image : List Byte) : Cartridge :=
  let h := parseHeader image
  { prgBanks := h.prgBanks, chrBanks := h.chrBanks, mirroring := h.mirroring, mapperId := h.mapperId,
    hasBattery := h.hasBattery, hasTrainer := h.hasTrainer,
    prgRom := Memory.ofBytes (imageBytes image h.prgOffset (Config.prgBankSize * h.prgBanks)) }

/-- The CHR memory of an image: its CHR ROM bank, or CHR RAM with the launch's initial content
(70_reset_and_hazards.md R385). -/
def chrOf (image : List Byte) (params : LaunchParams) : Memory :=
  let h := parseHeader image
  if h.chrBanks = 0 then Memory.ofBytes (params.chrInit.take Config.chrBankSize)
  else Memory.ofBytes (imageBytes image (h.prgOffset + Config.prgBankSize * h.prgBanks)
    (Config.chrBankSize * h.chrBanks))

/-- `load(rom_bytes)` (70_reset_and_hazards.md R380). -/
def load (image : List Byte) (params : LaunchParams) : LoadResult :=
  match loadError image with
  | some e => .error e
  | none => .system (powerOn (cartridgeOf image) (chrOf image params) params)

end Sys2Proof.Machine
end

