-- ==== Sys2Proof/Machine/HostCalls.lean ====
section
/-! DEFINITION. The host's other entry points (70_reset_and_hazards.md R392): inputs, the frame loop,
the bare dot, and reading the framebuffer. The host calls them between steps. -/

namespace Sys2Proof.Machine

/-- `set_controller_input(port, mask)`: port 0 is controller 1, port 1 controller 2
(60_exceptions.md R282). -/
def setControllerInput (port : Fin 2) (mask : Byte) (s : State) : State :=
  if port = 0 then s.setPad1 { s.pad1 with buttons := mask } else s.setPad2 { s.pad2 with buttons := mask }

/-- The host drives the level input `irq_line` (60_exceptions.md R253). -/
def setIrqLine (level : Bool) (s : State) : State := s.setIrqLine level

/-- `step_dot()`: one bare tick (70_reset_and_hazards.md R392). -/
def stepDot (s : State) : State := ppuTick s

/-- `framebuffer[y][x]` as the host reads it (62_ppu.md R354). -/
def framebufferPixel (y x : Nat) (s : State) : Byte := s.ppu.framebuffer.read (framebufferKey y x)

/-- How `step_frame()` ends (60_exceptions.md R272, R273). -/
inductive FrameResult where
  | returned (s : State)
  /-- A fault, with the state it leaves: `frame_parity` is not flipped. -/
  | faulted (r : Fault) (left : State)
  /-- An instruction without a meaning: no arm of `exec` is left so. -/
  | refused (r : Refusal) (left : State)
  deriving DecidableEq, Repr

/-- `target` of `step_frame()` (60_exceptions.md R272). -/
def frameTarget (s : State) : Nat := if s.frameParity then 29781 else 29780

/-- `while acc < target: acc = acc + step_instruction()`. Every step consumes at least one cycle, so
`target` rounds are enough (60_exceptions.md R272; log entry 11). -/
def frameLoop (target : Nat) : Nat → Nat → State → FrameResult
  | 0, _, s => .returned s
  | fuel + 1, acc, s =>
    if target ≤ acc then .returned s
    else
      match step s with
      | .next s' => frameLoop target fuel (acc + (s'.cycles - s.cycles)) s'
      | .fault r => .faulted r (stateAtFault s)
      | .refused r => .refused r (stateAtFault s)

/-- `step_frame()` (60_exceptions.md R272, R273). -/
def stepFrame (s : State) : FrameResult :=
  match frameLoop (frameTarget s) (frameTarget s) 0 s with
  | .returned s' => .returned (s'.setFrameParity (!s'.frameParity))
  | .faulted r left => .faulted r left
  | .refused r left => .refused r left

end Sys2Proof.Machine
end

