-- ==== Sys2Proof/Safety.lean ====
section
/-! DEFINITION. What counts as a safe state and a safe run, in the terms claims use: the invariants the
spec states of the machine, the byte an address reads as, and the PPU's position. -/

namespace Sys2Proof.Machine

/-! ## Invariants -/

/-- A memory array of `size` cells in canonical form. -/
def Memory.ok (size : Nat) (m : Memory) : Prop := m.wf = true ∧ m.fits size = true

/-- Every cell holds a 6-bit value (62_ppu.md R313, R352). -/
def Memory.sixBit (m : Memory) : Prop := ∀ k, m.read k &&& 0xC0#8 = 0x00#8

/-- A cartridge the loader accepts (00_scope.md R6, 70_reset_and_hazards.md R386). -/
structure Cartridge.Inv (c : Cartridge) : Prop where
  prgBanks : c.prgBanks = 1 ∨ c.prgBanks = 2
  chrBanks : c.chrBanks = 0 ∨ c.chrBanks = 1
  mapperId : c.mapperId = 0x00#8
  prgRom : c.prgRom.ok (Config.prgBankSize * c.prgBanks)

/-- A controller's index is in range, and 0 while the strobe is high (10_state.md R31,
60_exceptions.md R280). -/
structure Controller.Inv (c : Controller) : Prop where
  index : c.shiftIndex ≤ 8
  strobed : c.strobe = true → c.shiftIndex = 0

/-- The counters are in range, bits 4 to 0 of `status` are 0, and the PPU's memories are well formed
(10_state.md R30, R32, R35; 62_ppu.md R333). -/
structure Ppu.Inv (p : Ppu) : Prop where
  scanlineLow : -1 ≤ p.scanline
  scanlineHigh : p.scanline ≤ 260
  dot : p.dot ≤ 340
  status : p.status &&& 0x1F#8 = 0x00#8
  spriteCount : p.spriteCount ≤ 8
  vram : p.vram.ok Config.vramSize
  palette : p.palette.ok Config.paletteSize
  paletteSix : p.palette.sixBit
  oam : p.oam.ok Config.oamSize
  secondaryOam : p.secondaryOam.ok Config.secondaryOamSize
  framebuffer : p.framebuffer.ok Config.framebufferSize
  framebufferSix : p.framebuffer.sixBit

/-- The invariant of the machine: `P[5] = 1` and `P[4] = 0` (10_state.md R25), and every part is well
formed. -/
structure State.Inv (s : State) : Prop where
  unused : getFlag .U s.p = true
  break_ : getFlag .B s.p = false
  ram : s.ram.ok Config.ramSize
  prgRam : s.prgRam.ok Config.prgRamSize
  chr : s.chr.ok Config.chrBankSize
  cart : s.cart.Inv
  pad1 : s.pad1.Inv
  pad2 : s.pad2.Inv
  ppu : s.ppu.Inv

/-! ## The byte an address reads as -/

/-- What a CPU bus read at an address returns in this state. -/
def State.byteAt (s : State) (addr : Word) : Byte := (memRead addr s).1

/-- A store to `ea` lands in the byte that `addr` names: the same work RAM cell through any mirror, or
the same cartridge RAM cell (20_memory.md R54, R59). A store to PRG ROM or to an unmapped address lands
nowhere (20_memory.md R58, R62). -/
def storedAt (ea addr : Word) : Prop :=
  (ea.toNat < 0x2000 ∧ addr.toNat < 0x2000 ∧ ea.toNat % 0x0800 = addr.toNat % 0x0800) ∨
  (0x6000 ≤ ea.toNat ∧ ea.toNat < 0x8000 ∧ addr = ea)

/-- `n` bytes read through the bus at ascending addresses, each with its side effect, and the state
after them (30_encoding.md R101, 20_memory.md R72). -/
def busBytes : Nat → Word → State → List Byte × State
  | 0, _, s => ([], s)
  | n + 1, addr, s =>
    let r := memRead addr s
    let rest := busBytes n (addr + 1#16) r.2
    (r.1 :: rest.1, rest.2)

/-! ## The PPU's position -/

/-- The dots of one frame: 262 scanlines of 341 (62_ppu.md R300). -/
def dotsPerFrame : Nat := 89342

/-- How many dots the PPU has passed since power-on: completed frames and the linear index of
`(scanline, dot)` (62_ppu.md R333). -/
def Ppu.clock (p : Ppu) : Int := dotsPerFrame * p.frameCount + (p.scanline + 1) * 341 + p.dot

/-! ## Safe runs -/

/-- The opcode byte at `PC` is one of the 151 documented ones (30_encoding.md R118). -/
def opcodeDocumented (op : Byte) : Bool :=
  match opcodeForm op with
  | .f1 i => i.wellFormed
  | .f2 _ => true
  | .f3 _ => true

/-- The next step cannot fault: an interrupt sequence comes first, or the opcode byte is documented
(60_exceptions.md R251, R261). -/
def State.safeStep (s : State) : Bool := (takePending s).isSome || opcodeDocumented (s.byteAt s.pc)

/-- A run of `n` steps completes without a fault. -/
def State.runs (n : Nat) (s : State) : Prop :=
  match n with
  | 0 => True
  | n + 1 => ∃ t, step s = .next t ∧ State.runs n t

end Sys2Proof.Machine
end

