-- ==== Sys2Proof/Certificates/Slice0/Obligations.lean ====
section
/-! DEFINITION. The statements about the machine, each from the numbered rules its docstring cites. The
definitions before them are the words the statements share. An instruction's state is the one after its
fetch: `PC` is at the next instruction. -/

namespace Sys2Proof.Claims

open Sys2Proof Sys2Proof.Machine

/-- `p'` has each listed flag at the listed value and every other flag as in `p`. -/
def SetsFlags (p p' : Byte) (w : List (Flag × Bool)) : Prop :=
  (∀ c ∈ w, getFlag c.1 p' = c.2) ∧ ∀ f, f ∉ w.map Prod.fst → getFlag f p' = getFlag f p

/-- `Z` and `N` as `SetZN(v)` sets them (10_state.md R26). -/
def zn (v : Byte) : List (Flag × Bool) := [(.Z, decide (v = 0x00#8)), (.N, bitOf v 7)]

/-- From `s` to `t` exactly the listed bytes are stored: each reads back, through any mirror, and every
other byte of memory reads as before. -/
def Stores (s t : State) (l : List (Word × Byte)) : Prop :=
  (∀ c ∈ l, ∀ addr, storedAt c.1 addr → t.byteAt addr = c.2) ∧
  ∀ addr, isMemoryAddr addr = true → (∀ c ∈ l, ¬ storedAt c.1 addr) → t.byteAt addr = s.byteAt addr

/-- `i` has these bytes, completes at `s` in the state `t`, and stores exactly the listed bytes. -/
def Completes (i : Instr) (bytes : List Byte) (s t : State) (l : List (Word × Byte)) : Prop :=
  encode i = bytes ∧ exec i s = .next t ∧ Stores s t l

/-- The address an operand that reads memory names; none for an immediate. -/
def sourceAddr (o : Source) (s : State) : Option Word :=
  match o with
  | .imm _ => none
  | .mem m => some (m.resolve s).ea

/-- The byte an operand gives: the immediate, or the byte at the effective address. -/
def sourceByte (o : Source) (s : State) : Byte :=
  match o with
  | .imm b => b
  | .mem m => s.byteAt (m.resolve s).ea

/-- Whether the operand's mode crossed a page. -/
def sourceCrossed (o : Source) (s : State) : Bool :=
  match o with
  | .imm _ => false
  | .mem m => (m.resolve s).crossed

/-- The PPU after one CPU read at an address: only 0x2002, 0x2007 and their mirrors change it
(20_memory.md R69). -/
def ppuAfterRead (addr : Option Word) (s : State) : Ppu :=
  match addr with
  | none => s.ppu
  | some ea =>
    if 0x2000 ≤ ea.toNat ∧ ea.toNat < 0x4000 ∧ ea.toNat % 8 = 2 then s.ppu.afterStatusRead
    else if 0x2000 ≤ ea.toNat ∧ ea.toNat < 0x4000 ∧ ea.toNat % 8 = 7 then s.ppu.afterDataRead s.ppuEnv
    else s.ppu

/-- Controller 1 after one CPU read at an address (20_memory.md R69). -/
def pad1AfterRead (addr : Option Word) (s : State) : Controller :=
  if addr = some 0x4016#16 then s.pad1.afterRead else s.pad1

/-- Controller 2 after one CPU read at an address (20_memory.md R69). -/
def pad2AfterRead (addr : Option Word) (s : State) : Controller :=
  if addr = some 0x4017#16 then s.pad2.afterRead else s.pad2

/-- `s` after one data read through `o`, with the registers and flags `a x y p` and `n` more cycles:
everything else is as in `s`, but for the side effect the address read has (20_memory.md R69). -/
def afterRead (o : Source) (s : State) (a x y p : Byte) (n : Nat) : State :=
  { s with
    a := a, x := x, y := y, p := p, cycles := s.cycles + n
    ppu := ppuAfterRead (sourceAddr o s) s
    pad1 := pad1AfterRead (sourceAddr o s) s
    pad2 := pad2AfterRead (sourceAddr o s) s }

/-- The cycles of a read form: the row's base, plus 1 if it says so and the mode crossed a page
(30_encoding.md R117). -/
def readCycles (base : Nat) (penalty : Bool) (o : Source) (s : State) : Nat :=
  base + if penalty = true ∧ sourceCrossed o s = true then 1 else 0

/-- A property of each row of an instruction: the instruction, its bytes, its operand, its base cycles
and its page-cross mark. -/
abbrev RowProp := Instr → List Byte → Source → Nat → Bool → Prop

/-- The eight rows of ADC, AND, CMP, EOR, LDA, ORA, SBC (30_encoding.md R120). -/
def EightRows (imm zp zpX : Byte → Instr) (abs absX absY : Word → Instr) (indX indY : Byte → Instr)
    (oImm oZp oZpX oAbs oAbsX oAbsY oIndX oIndY : Byte) (P : RowProp) : Prop :=
  (∀ b, P (imm b) [oImm, b] (.imm b) 2 false) ∧
  (∀ b, P (zp b) [oZp, b] (.mem (.zp b)) 3 false) ∧
  (∀ b, P (zpX b) [oZpX, b] (.mem (.zpX b)) 4 false) ∧
  (∀ w, P (abs w) [oAbs, loByte w, hiByte w] (.mem (.abs w)) 4 false) ∧
  (∀ w, P (absX w) [oAbsX, loByte w, hiByte w] (.mem (.absX w)) 4 true) ∧
  (∀ w, P (absY w) [oAbsY, loByte w, hiByte w] (.mem (.absY w)) 4 true) ∧
  (∀ b, P (indX b) [oIndX, b] (.mem (.indX b)) 6 false) ∧
  (∀ b, P (indY b) [oIndY, b] (.mem (.indY b)) 5 true)

/-- A property of each storing row: the instruction, its bytes, its operand and its base cycles. -/
abbrev StoreProp := Instr → List Byte → MemOperand → Nat → Prop

/-- The four memory rows of ASL, LSR, ROL, ROR, INC, DEC (30_encoding.md R120). -/
def FourModifyRows (zp zpX : Byte → Instr) (abs absX : Word → Instr) (oZp oZpX oAbs oAbsX : Byte)
    (P : StoreProp) : Prop :=
  (∀ b, P (zp b) [oZp, b] (.zp b) 5) ∧
  (∀ b, P (zpX b) [oZpX, b] (.zpX b) 6) ∧
  (∀ w, P (abs w) [oAbs, loByte w, hiByte w] (.abs w) 6) ∧
  (∀ w, P (absX w) [oAbsX, loByte w, hiByte w] (.absX w) 7)

/-- A row that reads a byte `m`, leaves memory alone, and ends with `A`, `X`, `Y` and flags as given. -/
def ReadRow (s : State) (a x y : Byte → Byte) (flags : Byte → List (Flag × Bool)) : RowProp :=
  fun i bytes o base penalty =>
    ∃ p', SetsFlags s.p p' (flags (sourceByte o s)) ∧
      Completes i bytes s
        (afterRead o s (a (sourceByte o s)) (x (sourceByte o s)) (y (sourceByte o s)) p'
          (readCycles base penalty o s)) []

/-- What the store of `v` at `ea` leaves: registers, cartridge and inputs as in `s`; unless `ea` is a
device register, the devices too. -/
structure StoreFrame (ea : Word) (s t : State) : Prop where
  a : t.a = s.a
  x : t.x = s.x
  y : t.y = s.y
  sp : t.sp = s.sp
  pc : t.pc = s.pc
  cart : t.cart = s.cart
  frameParity : t.frameParity = s.frameParity
  irqLine : t.irqLine = s.irqLine
  ctrlHighBits : t.ctrlHighBits = s.ctrlHighBits
  chr : ¬ (0x2000 ≤ ea.toNat ∧ ea.toNat < 0x4000) → t.chr = s.chr
  ppu : ¬ (0x2000 ≤ ea.toNat ∧ ea.toNat < 0x4000) → ea ≠ 0x4014#16 → t.ppu = s.ppu
  pads : ea ≠ 0x4014#16 → ea ≠ 0x4016#16 → ea ≠ 0x4017#16 → t.pad1 = s.pad1 ∧ t.pad2 = s.pad2

/-- The cycles of a storing form: the row's base, plus the DMA stall if the address is 0x4014
(30_encoding.md R100, 60_exceptions.md R275). -/
def storeCycles (base : Nat) (ea : Word) (s : State) : Nat :=
  base + if ea = 0x4014#16 then 513 + s.cycles % 2 else 0

/-- A row that stores `v` at its effective address: the bus write of `v` there, no flag changed. -/
def StoreRow (s : State) (v : Byte) : StoreProp := fun i bytes o base =>
  ∃ t, Completes i bytes s t [((o.resolve s).ea, v)] ∧ StoreFrame (o.resolve s).ea s t ∧ t.p = s.p ∧
    t = { memWrite (o.resolve s).ea v s with cycles := s.cycles + storeCycles base (o.resolve s).ea s }

/-- A row that reads the byte `m` at its effective address, writes `r m` back there and sets flags: one
bus read, then one bus write. -/
def ModifyRow (s : State) (r : Byte → Byte) (flags : Byte → List (Flag × Bool)) : StoreProp :=
  fun i bytes o base =>
    let ea := (o.resolve s).ea
    let m := s.byteAt ea
    ∃ t, Completes i bytes s t [(ea, r m)] ∧ StoreFrame ea s t ∧ SetsFlags s.p t.p (flags m) ∧
      t = { memWrite ea (r m) (memRead ea s).2 with p := t.p, cycles := s.cycles + storeCycles base ea s }

/-- A row whose operand and destination are `A`. -/
def AccumulatorRow (s : State) (i : Instr) (opcode r : Byte) (flags : List (Flag × Bool)) : Prop :=
  ∃ p', SetsFlags s.p p' flags ∧
    Completes i [opcode] s { s with a := r, p := p', cycles := s.cycles + 2 } []

/-- A one-byte row of two cycles that changes registers and flags only. -/
def RegisterRow (i : Instr) (opcode : Byte) (s : State) (a x y sp : Byte) (flags : List (Flag × Bool)) : Prop :=
  ∃ p', SetsFlags s.p p' flags ∧
    Completes i [opcode] s { s with a := a, x := x, y := y, sp := sp, p := p', cycles := s.cycles + 2 } []

/-- The VRAM index of a nametable address under each mirroring (62_ppu.md R312). -/
def ntCell (m : Config.Mirroring) (a : Nat) : Nat :=
  match m with
  | .vertical => a % 2048
  | .horizontal => a % 4096 / 2048 * 1024 + a % 1024

/-- The palette cell of an address: 0x10, 0x14, 0x18 and 0x1C are the cells 0x00, 0x04, 0x08 and 0x0C
(62_ppu.md R313). -/
def palCell (a : Nat) : Nat := if 16 ≤ a % 32 ∧ a % 4 = 0 then a % 16 else a % 32

/-- What the PPU's own bus reads at an address: CHR memory, nametables, palette (62_ppu.md R310, R312,
R313). -/
def ppuByte (env : PpuEnv) (p : Ppu) (a : Nat) : Byte :=
  if a % 16384 < 0x2000 then env.chr.read (a % 16384)
  else if a % 16384 < 0x3F00 then p.vram.read (ntCell env.mirroring a)
  else p.palette.read (palCell a)

/-- The carry as a number. -/
def carry (s : State) : Nat := (getFlag .C s.p).toNat

end Sys2Proof.Claims

open Sys2Proof Sys2Proof.Machine Sys2Proof.Claims

/-! ## Encoding -/

/-- Every instruction, with every operand, decodes from its own bytes, whatever follows them
(30_encoding.md R115, R116, R120). -/
def Obligations.DecodeOfEncodeIsTheInstruction : Prop :=
  ∀ (i : Instr) (rest : List Byte), decode (encode i ++ rest) = .ok i rest

/-- Bytes that decode are the encoding of what they decode to: no byte sequence has two meanings and no
bit is dropped (30_encoding.md R115, R116, R118). -/
def Obligations.EncodeOfDecodeIsTheBytes : Prop :=
  ∀ (bytes : List Byte) (i : Instr) (rest : List Byte), decode bytes = .ok i rest → encode i ++ rest = bytes

/-- Decoding is a total function of the opcode byte: every byte selects one row, and the row is a
documented instruction unless the byte is one of the 105, whose rows are one byte long
(30_encoding.md R118). -/
def Obligations.EveryOpcodeByteSelectsOneRow : Prop :=
  (∀ op b1 b2 : Byte, ∃ i rest, decode [op, b1, b2] = .ok i rest ∧
    (encode i).head? = some op ∧ i.wellFormed = opcodeDocumented op ∧
    (i.wellFormed = false → encode i = [op])) ∧
  ((List.range 256).countP fun n => opcodeDocumented (BitVec.ofNat 8 n)) = 151

/-- Words written out from the table of 30_encoding.md R120 decode to the instructions they stand for,
one of each family and format; 0x02 is the first illegal byte of R121. -/
def Obligations.WrittenOutWordsDecode : Prop :=
  decodeTableWord 16 0x42A9 = some (.ldaImm 0x42#8) ∧
  decodeTableWord 24 0x20008D = some (.staAbs 0x2000#16) ∧
  decodeTableWord 8 0xAA = some .tax ∧
  decodeTableWord 16 0x1071 = some (.adcIndY 0x10#8) ∧
  decodeTableWord 24 0x12F0FE = some (.incAbsX 0x12F0#16) ∧
  decodeTableWord 8 0x6A = some .rorAcc ∧
  decodeTableWord 24 0x02FF6C = some (.jmpInd 0x02FF#16) ∧
  decodeTableWord 16 0xFED0 = some (.bne 0xFE#8) ∧
  decodeTableWord 8 0x00 = some .brk ∧
  decodeTableWord 8 0x40 = some .rti ∧
  decodeTableWord 8 0x02 = some .illegal02

/-! ## Addressing modes -/

/-- The effective address and the page-crossed flag of each memory mode (30_encoding.md R105, R106, R108
to R111, R113, R114); the pointer bytes of the two indirect modes come from page zero of work RAM, with
the wrap inside it, and no mode changes the state. -/
def Obligations.AddressingModesGiveTheirEffectiveAddress : Prop :=
  ∀ (b : Byte) (w : Word) (s : State),
    let ptr (z : Nat) : Nat := (s.ram.read z).toNat + 256 * (s.ram.read ((z + 1) % 256)).toNat
    let Is (o : MemOperand) (ea : Nat) (crossed : Prop) : Prop :=
      (o.resolve s).ea.toNat = ea ∧ ((o.resolve s).crossed = true ↔ crossed) ∧ (o.resolve s).st = s
    Is (.zp b) b.toNat False ∧
    Is (.zpX b) ((b.toNat + s.x.toNat) % 256) False ∧
    Is (.zpY b) ((b.toNat + s.y.toNat) % 256) False ∧
    Is (.abs w) w.toNat False ∧
    Is (.absX w) ((w.toNat + s.x.toNat) % 65536) ((w.toNat + s.x.toNat) % 65536 / 256 ≠ w.toNat / 256) ∧
    Is (.absY w) ((w.toNat + s.y.toNat) % 65536) ((w.toNat + s.y.toNat) % 65536 / 256 ≠ w.toNat / 256) ∧
    Is (.indX b) (ptr ((b.toNat + s.x.toNat) % 256)) False ∧
    Is (.indY b) ((ptr b.toNat + s.y.toNat) % 65536)
      ((ptr b.toNat + s.y.toNat) % 65536 / 256 ≠ ptr b.toNat / 256)

/-! ## Load, store, transfer -/

/-- LDA, LDX, LDY in every mode: the register takes the byte, `Z` and `N` come from it, nothing else
changes but what the address read does to a device (40_load_store_transfer.md R140 to R142). -/
def Obligations.LoadsTakeTheByteAndSetZN : Prop :=
  ∀ s : State,
    EightRows .ldaImm .ldaZp .ldaZpX .ldaAbs .ldaAbsX .ldaAbsY .ldaIndX .ldaIndY
      0xA9#8 0xA5#8 0xB5#8 0xAD#8 0xBD#8 0xB9#8 0xA1#8 0xB1#8
      (ReadRow s (fun m => m) (fun _ => s.x) (fun _ => s.y) zn) ∧
    (let P := ReadRow s (fun _ => s.a) (fun m => m) (fun _ => s.y) zn
     (∀ b, P (.ldxImm b) [0xA2#8, b] (.imm b) 2 false) ∧
     (∀ b, P (.ldxZp b) [0xA6#8, b] (.mem (.zp b)) 3 false) ∧
     (∀ b, P (.ldxZpY b) [0xB6#8, b] (.mem (.zpY b)) 4 false) ∧
     (∀ w, P (.ldxAbs w) [0xAE#8, loByte w, hiByte w] (.mem (.abs w)) 4 false) ∧
     (∀ w, P (.ldxAbsY w) [0xBE#8, loByte w, hiByte w] (.mem (.absY w)) 4 true)) ∧
    (let P := ReadRow s (fun _ => s.a) (fun _ => s.x) (fun m => m) zn
     (∀ b, P (.ldyImm b) [0xA0#8, b] (.imm b) 2 false) ∧
     (∀ b, P (.ldyZp b) [0xA4#8, b] (.mem (.zp b)) 3 false) ∧
     (∀ b, P (.ldyZpX b) [0xB4#8, b] (.mem (.zpX b)) 4 false) ∧
     (∀ w, P (.ldyAbs w) [0xAC#8, loByte w, hiByte w] (.mem (.abs w)) 4 false) ∧
     (∀ w, P (.ldyAbsX w) [0xBC#8, loByte w, hiByte w] (.mem (.absX w)) 4 true))

/-- STA, STX, STY in every mode: one bus write of the register at the effective address, no flag and no
register changed, no read of the address; the bytes stored are exactly that one, or none where the
address is PRG ROM or unmapped (40_load_store_transfer.md R143 to R145). -/
def Obligations.StoresWriteExactlyTheirByte : Prop :=
  ∀ s : State, s.Inv →
    (let P := StoreRow s s.a
     (∀ b, P (.staZp b) [0x85#8, b] (.zp b) 3) ∧
     (∀ b, P (.staZpX b) [0x95#8, b] (.zpX b) 4) ∧
     (∀ w, P (.staAbs w) [0x8D#8, loByte w, hiByte w] (.abs w) 4) ∧
     (∀ w, P (.staAbsX w) [0x9D#8, loByte w, hiByte w] (.absX w) 5) ∧
     (∀ w, P (.staAbsY w) [0x99#8, loByte w, hiByte w] (.absY w) 5) ∧
     (∀ b, P (.staIndX b) [0x81#8, b] (.indX b) 6) ∧
     (∀ b, P (.staIndY b) [0x91#8, b] (.indY b) 6)) ∧
    (let P := StoreRow s s.x
     (∀ b, P (.stxZp b) [0x86#8, b] (.zp b) 3) ∧
     (∀ b, P (.stxZpY b) [0x96#8, b] (.zpY b) 4) ∧
     (∀ w, P (.stxAbs w) [0x8E#8, loByte w, hiByte w] (.abs w) 4)) ∧
    (let P := StoreRow s s.y
     (∀ b, P (.styZp b) [0x84#8, b] (.zp b) 3) ∧
     (∀ b, P (.styZpX b) [0x94#8, b] (.zpX b) 4) ∧
     (∀ w, P (.styAbs w) [0x8C#8, loByte w, hiByte w] (.abs w) 4))

/-- The six register transfers; TXS is the one that leaves the flags alone
(40_load_store_transfer.md R146 to R151). -/
def Obligations.TransfersCopyOneRegister : Prop :=
  ∀ s : State,
    RegisterRow .tax 0xAA#8 s s.a s.a s.y s.sp (zn s.a) ∧
    RegisterRow .tay 0xA8#8 s s.a s.x s.a s.sp (zn s.a) ∧
    RegisterRow .txa 0x8A#8 s s.x s.x s.y s.sp (zn s.x) ∧
    RegisterRow .tya 0x98#8 s s.y s.x s.y s.sp (zn s.y) ∧
    RegisterRow .tsx 0xBA#8 s s.a s.sp s.y s.sp (zn s.sp) ∧
    RegisterRow .txs 0x9A#8 s s.a s.x s.y s.x []

/-! ## Arithmetic and logic -/

/-- ADC in every mode: the sum of `A`, the byte and the carry modulo 256; `C` is its carry out, `V` says
that the signed sum is outside -128 to 127 (41_arithmetic_logic.md R163). -/
def Obligations.AdcAddsWithCarry : Prop :=
  ∀ s : State,
    let sum (m : Byte) : Nat := s.a.toNat + m.toNat + carry s
    let signed (m : Byte) : Int := s.a.toInt + m.toInt + carry s
    EightRows .adcImm .adcZp .adcZpX .adcAbs .adcAbsX .adcAbsY .adcIndX .adcIndY
      0x69#8 0x65#8 0x75#8 0x6D#8 0x7D#8 0x79#8 0x61#8 0x71#8
      (ReadRow s (fun m => BitVec.ofNat 8 (sum m)) (fun _ => s.x) (fun _ => s.y)
        (fun m => (.C, decide (255 < sum m)) :: (.V, decide (signed m < -128 ∨ 127 < signed m)) ::
          zn (BitVec.ofNat 8 (sum m))))

/-- SBC in every mode: `A` minus the byte minus the borrow modulo 256; `C` says that no borrow occurred,
`V` that the signed difference is outside -128 to 127 (41_arithmetic_logic.md R164). -/
def Obligations.SbcSubtractsWithBorrow : Prop :=
  ∀ s : State,
    let diff (m : Byte) : Int := s.a.toNat - m.toNat - (1 - carry s : Int)
    let signed (m : Byte) : Int := s.a.toInt - m.toInt - (1 - carry s : Int)
    EightRows .sbcImm .sbcZp .sbcZpX .sbcAbs .sbcAbsX .sbcAbsY .sbcIndX .sbcIndY
      0xE9#8 0xE5#8 0xF5#8 0xED#8 0xFD#8 0xF9#8 0xE1#8 0xF1#8
      (ReadRow s (fun m => BitVec.ofInt 8 (diff m)) (fun _ => s.x) (fun _ => s.y)
        (fun m => (.C, decide (0 ≤ diff m)) :: (.V, decide (signed m < -128 ∨ 127 < signed m)) ::
          zn (BitVec.ofInt 8 (diff m))))

/-- AND, ORA, EOR in every mode (41_arithmetic_logic.md R165 to R167). -/
def Obligations.LogicCombinesIntoA : Prop :=
  ∀ s : State,
    let P (f : Byte → Byte) : RowProp := ReadRow s f (fun _ => s.x) (fun _ => s.y) (fun m => zn (f m))
    EightRows .andImm .andZp .andZpX .andAbs .andAbsX .andAbsY .andIndX .andIndY
      0x29#8 0x25#8 0x35#8 0x2D#8 0x3D#8 0x39#8 0x21#8 0x31#8 (P fun m => s.a &&& m) ∧
    EightRows .oraImm .oraZp .oraZpX .oraAbs .oraAbsX .oraAbsY .oraIndX .oraIndY
      0x09#8 0x05#8 0x15#8 0x0D#8 0x1D#8 0x19#8 0x01#8 0x11#8 (P fun m => s.a ||| m) ∧
    EightRows .eorImm .eorZp .eorZpX .eorAbs .eorAbsX .eorAbsY .eorIndX .eorIndY
      0x49#8 0x45#8 0x55#8 0x4D#8 0x5D#8 0x59#8 0x41#8 0x51#8 (P fun m => s.a ^^^ m)

/-- CMP, CPX, CPY in every mode: `C` is the unsigned order, `Z` says equal, `N` is bit 7 of the
difference; no register and no other flag changes (41_arithmetic_logic.md R168 to R170). -/
def Obligations.ComparesSetCarryZeroNegative : Prop :=
  ∀ s : State,
    let P (r : Byte) : RowProp := ReadRow s (fun _ => s.a) (fun _ => s.x) (fun _ => s.y)
      (fun m => [(.C, decide (m.toNat ≤ r.toNat)), (.Z, decide (r = m)), (.N, bitOf (r - m) 7)])
    EightRows .cmpImm .cmpZp .cmpZpX .cmpAbs .cmpAbsX .cmpAbsY .cmpIndX .cmpIndY
      0xC9#8 0xC5#8 0xD5#8 0xCD#8 0xDD#8 0xD9#8 0xC1#8 0xD1#8 (P s.a) ∧
    (∀ b, P s.x (.cpxImm b) [0xE0#8, b] (.imm b) 2 false) ∧
    (∀ b, P s.x (.cpxZp b) [0xE4#8, b] (.mem (.zp b)) 3 false) ∧
    (∀ w, P s.x (.cpxAbs w) [0xEC#8, loByte w, hiByte w] (.mem (.abs w)) 4 false) ∧
    (∀ b, P s.y (.cpyImm b) [0xC0#8, b] (.imm b) 2 false) ∧
    (∀ b, P s.y (.cpyZp b) [0xC4#8, b] (.mem (.zp b)) 3 false) ∧
    (∀ w, P s.y (.cpyAbs w) [0xCC#8, loByte w, hiByte w] (.mem (.abs w)) 4 false)

/-- BIT in both modes: `Z` from `A and m`, `N` and `V` from bits 7 and 6 of the byte
(41_arithmetic_logic.md R171). -/
def Obligations.BitTestTakesFlagsFromTheByte : Prop :=
  ∀ s : State,
    let P : RowProp := ReadRow s (fun _ => s.a) (fun _ => s.x) (fun _ => s.y)
      (fun m => [(.Z, decide (s.a &&& m = 0x00#8)), (.N, bitOf m 7), (.V, bitOf m 6)])
    (∀ b, P (.bitZp b) [0x24#8, b] (.mem (.zp b)) 3 false) ∧
    (∀ w, P (.bitAbs w) [0x2C#8, loByte w, hiByte w] (.mem (.abs w)) 4 false)

/-- INC and DEC in every mode: the byte plus or minus 1 modulo 256 is written back, `Z` and `N` come from
it, `C` and `V` stay (41_arithmetic_logic.md R172, R173). -/
def Obligations.IncAndDecRewriteTheByte : Prop :=
  ∀ s : State, s.Inv →
    let P (f : Byte → Byte) : StoreProp := ModifyRow s f (fun m => zn (f m))
    FourModifyRows .incZp .incZpX .incAbs .incAbsX 0xE6#8 0xF6#8 0xEE#8 0xFE#8
      (P fun m => BitVec.ofNat 8 (m.toNat + 1)) ∧
    FourModifyRows .decZp .decZpX .decAbs .decAbsX 0xC6#8 0xD6#8 0xCE#8 0xDE#8
      (P fun m => BitVec.ofNat 8 (m.toNat + 255))

/-- INX, INY, DEX, DEY (41_arithmetic_logic.md R174 to R177). -/
def Obligations.RegisterIncrementsAndDecrementsWrap : Prop :=
  ∀ s : State,
    let up (r : Byte) : Byte := BitVec.ofNat 8 (r.toNat + 1)
    let down (r : Byte) : Byte := BitVec.ofNat 8 (r.toNat + 255)
    RegisterRow .inx 0xE8#8 s s.a (up s.x) s.y s.sp (zn (up s.x)) ∧
    RegisterRow .iny 0xC8#8 s s.a s.x (up s.y) s.sp (zn (up s.y)) ∧
    RegisterRow .dex 0xCA#8 s s.a (down s.x) s.y s.sp (zn (down s.x)) ∧
    RegisterRow .dey 0x88#8 s s.a s.x (down s.y) s.sp (zn (down s.y))

/-! ## Shift and rotate -/

/-- ASL and LSR on the accumulator and in every memory mode: `C` is the bit shifted out, the bit shifted
in is 0 (42_shift_rotate.md R191, R192). -/
def Obligations.ShiftsMoveOneBitIntoCarry : Prop :=
  ∀ s : State,
    let asl (v : Byte) : Byte := BitVec.ofNat 8 (v.toNat * 2)
    let lsr (v : Byte) : Byte := BitVec.ofNat 8 (v.toNat / 2)
    let fl (out : Nat) (f : Byte → Byte) (v : Byte) : List (Flag × Bool) := (.C, bitOf v out) :: zn (f v)
    AccumulatorRow s .aslAcc 0x0A#8 (asl s.a) (fl 7 asl s.a) ∧
    AccumulatorRow s .lsrAcc 0x4A#8 (lsr s.a) (fl 0 lsr s.a) ∧
    (s.Inv →
      FourModifyRows .aslZp .aslZpX .aslAbs .aslAbsX 0x06#8 0x16#8 0x0E#8 0x1E#8
        (ModifyRow s asl (fl 7 asl)) ∧
      FourModifyRows .lsrZp .lsrZpX .lsrAbs .lsrAbsX 0x46#8 0x56#8 0x4E#8 0x5E#8
        (ModifyRow s lsr (fl 0 lsr)))

/-- ROL and ROR on the accumulator and in every memory mode: a rotation through the old carry
(42_shift_rotate.md R193, R194). -/
def Obligations.RotatesGoThroughCarry : Prop :=
  ∀ s : State,
    let rol (v : Byte) : Byte := BitVec.ofNat 8 (v.toNat * 2 + carry s)
    let ror (v : Byte) : Byte := BitVec.ofNat 8 (v.toNat / 2 + 128 * carry s)
    let fl (out : Nat) (f : Byte → Byte) (v : Byte) : List (Flag × Bool) := (.C, bitOf v out) :: zn (f v)
    AccumulatorRow s .rolAcc 0x2A#8 (rol s.a) (fl 7 rol s.a) ∧
    AccumulatorRow s .rorAcc 0x6A#8 (ror s.a) (fl 0 ror s.a) ∧
    (s.Inv →
      FourModifyRows .rolZp .rolZpX .rolAbs .rolAbsX 0x26#8 0x36#8 0x2E#8 0x3E#8
        (ModifyRow s rol (fl 7 rol)) ∧
      FourModifyRows .rorZp .rorZpX .rorAbs .rorAbsX 0x66#8 0x76#8 0x6E#8 0x7E#8
        (ModifyRow s ror (fl 0 ror)))

/-! ## Jumps, calls, returns, branches -/

/-- JMP: the absolute form goes to its operand; the indirect form reads its target, low byte at the
operand address and high byte from the same page, and changes nothing else but what those two reads do
(43_control_flow.md R201, 30_encoding.md R112). -/
def Obligations.JumpsGoToTheirTarget : Prop :=
  ∀ (w : Word) (s : State),
    Completes (.jmpAbs w) [0x4C#8, loByte w, hiByte w] s { s with pc := w, cycles := s.cycles + 3 } [] ∧
    (let hiAddr : Word := BitVec.ofNat 16 (w.toNat / 256 * 256 + (w.toNat + 1) % 256)
     let lo := memRead w s
     let hi := memRead hiAddr lo.2
     Completes (.jmpInd w) [0x6C#8, loByte w, hiByte w] s
       { s with
         pc := BitVec.ofNat 16 (hi.1.toNat * 256 + lo.1.toNat), cycles := s.cycles + 5
         ppu := hi.2.ppu, pad1 := hi.2.pad1, pad2 := hi.2.pad2 } [] ∧
     ((∀ a : Word, a = w ∨ a = hiAddr → isMemoryAddr a = true) → hi.2 = s))

/-- JSR pushes the address of its own last byte, high byte first, and goes to its operand; the two bytes
on the stack and `SP`, `PC`, the cycles are all that changes (43_control_flow.md R202). -/
def Obligations.JsrPushesItsReturnAddress : Prop :=
  ∀ (w : Word) (s : State), s.Inv →
    ∃ t, Completes (.jsr w) [0x20#8, loByte w, hiByte w] s t
        [(stackAddr s.sp, hiByte (s.pc - 1#16)), (stackAddr (s.sp - 1#8), loByte (s.pc - 1#16))] ∧
      t = { s with ram := t.ram, sp := s.sp - 2#8, pc := w, cycles := s.cycles + 6 }

/-- RTS pulls the low byte, then the high byte, and resumes one past that address; memory is unchanged
(43_control_flow.md R204). -/
def Obligations.RtsResumesPastTheStackedAddress : Prop :=
  ∀ s : State,
    let target := (s.byteAt (stackAddr (s.sp + 1#8))).toNat + 256 * (s.byteAt (stackAddr (s.sp + 2#8))).toNat + 1
    Completes .rts [0x60#8] s
      { s with pc := BitVec.ofNat 16 target, sp := s.sp + 2#8, cycles := s.cycles + 6 } []

/-- The eight branches: taken exactly when the flag has the value, to `PC` plus the signed displacement
modulo 2^16; 2 cycles, 3 taken within the page of the next instruction, 4 taken to another page; nothing
else changes (43_control_flow.md R203, R205 to R212). -/
def Obligations.BranchesFollowTheirFlag : Prop :=
  ∀ (b : Byte) (s : State),
    let target : Word := BitVec.ofInt 16 (s.pc.toNat + b.toInt)
    let Row (i : Instr) (opcode : Byte) (f : Flag) (value : Bool) : Prop :=
      Completes i [opcode, b] s
        (if getFlag f s.p = value then
          { s with pc := target,
                   cycles := s.cycles + if target.toNat / 256 = s.pc.toNat / 256 then 3 else 4 }
        else { s with cycles := s.cycles + 2 }) []
    Row (.bcc b) 0x90#8 .C false ∧ Row (.bcs b) 0xB0#8 .C true ∧
    Row (.bne b) 0xD0#8 .Z false ∧ Row (.beq b) 0xF0#8 .Z true ∧
    Row (.bpl b) 0x10#8 .N false ∧ Row (.bmi b) 0x30#8 .N true ∧
    Row (.bvc b) 0x50#8 .V false ∧ Row (.bvs b) 0x70#8 .V true

/-! ## Stack, flag, system -/

/-- PHA and PHP store one byte at `0x0100 + SP` and decrement `SP` modulo 256; PHP's byte has `B` and `U`
set and `P` itself is unchanged (44_stack_flag_system.md R231, R233). -/
def Obligations.PushesStoreOneByteBelow : Prop :=
  ∀ s : State, s.Inv →
    let Row (i : Instr) (opcode v : Byte) : Prop :=
      ∃ t, Completes i [opcode] s t [(stackAddr s.sp, v)] ∧
        t = { s with ram := t.ram, sp := s.sp - 1#8, cycles := s.cycles + 3 }
    Row .pha 0x48#8 s.a ∧
    ∃ v, SetsFlags s.p v [(.B, true), (.U, true)] ∧ Row .php 0x08#8 v

/-- PLA takes the byte above and sets `Z` and `N`; PLP takes the flags from it but for `U`, which is 1,
and `B`, which is 0; both increment `SP` and leave memory alone (44_stack_flag_system.md R232, R234). -/
def Obligations.PullsTakeTheByteAbove : Prop :=
  ∀ s : State,
    let v := s.byteAt (stackAddr (s.sp + 1#8))
    (∃ p', SetsFlags s.p p' (zn v) ∧
      Completes .pla [0x68#8] s { s with a := v, p := p', sp := s.sp + 1#8, cycles := s.cycles + 4 } []) ∧
    (∃ p', SetsFlags v p' [(.B, false), (.U, true)] ∧
      Completes .plp [0x28#8] s { s with p := p', sp := s.sp + 1#8, cycles := s.cycles + 4 } [])

/-- CLC, SEC, CLI, SEI, CLV, CLD, SED write their one flag; NOP changes nothing
(44_stack_flag_system.md R235 to R239, R242 to R244). -/
def Obligations.FlagInstructionsWriteOneFlag : Prop :=
  ∀ s : State,
    let Row (i : Instr) (opcode : Byte) (w : List (Flag × Bool)) : Prop :=
      RegisterRow i opcode s s.a s.x s.y s.sp w
    Row .clc 0x18#8 [(.C, false)] ∧ Row .sec 0x38#8 [(.C, true)] ∧
    Row .cli 0x58#8 [(.I, false)] ∧ Row .sei 0x78#8 [(.I, true)] ∧
    Row .clv 0xB8#8 [(.V, false)] ∧
    Row .cld 0xD8#8 [(.D, false)] ∧ Row .sed 0xF8#8 [(.D, true)] ∧
    Completes .nop [0xEA#8] s { s with cycles := s.cycles + 2 } []

/-- BRK takes the interrupt sequence: it stores the address of the opcode plus 2, high byte first, then
`P` with `B` and `U` set, sets `I`, and continues at the vector 0xFFFE; nothing else changes
(44_stack_flag_system.md R240). -/
def Obligations.BrkTakesTheInterruptSequence : Prop :=
  ∀ s : State, s.Inv →
    ∃ t v, SetsFlags s.p v [(.B, true), (.U, true)] ∧ SetsFlags s.p t.p [(.I, true)] ∧
      Completes .brk [0x00#8] s t
        [(stackAddr s.sp, hiByte (s.pc + 1#16)), (stackAddr (s.sp - 1#8), loByte (s.pc + 1#16)),
          (stackAddr (s.sp - 2#8), v)] ∧
      t.pc.toNat = (s.byteAt 0xFFFE#16).toNat + 256 * (s.byteAt 0xFFFF#16).toNat ∧
      t = { s with ram := t.ram, sp := s.sp - 3#8, p := t.p, pc := t.pc, cycles := s.cycles + 7 }

/-- RTI takes `P` from the byte above `SP`, with `U` 1 and `B` 0, then `PC`, low byte first, with nothing
added; memory is unchanged (44_stack_flag_system.md R241). -/
def Obligations.RtiRestoresStatusAndPc : Prop :=
  ∀ s : State,
    ∃ p', SetsFlags (s.byteAt (stackAddr (s.sp + 1#8))) p' [(.B, false), (.U, true)] ∧
      Completes .rti [0x40#8] s
        { s with
          p := p', sp := s.sp + 3#8, cycles := s.cycles + 6
          pc := BitVec.ofNat 16 ((s.byteAt (stackAddr (s.sp + 2#8))).toNat +
            256 * (s.byteAt (stackAddr (s.sp + 3#8))).toNat) } []

/-! ## Interrupts -/

/-- The NMI and IRQ sequences: the address of the next instruction, high byte first, and `P` with `B`
clear and `U` set are stored on the stack, `I` is set, `PC` comes from 0xFFFA or 0xFFFE, 7 cycles;
nothing else changes. `irq()` with `I` set does nothing (60_exceptions.md R255 to R257). -/
def Obligations.InterruptSequencesSaveAndGoToTheirVector : Prop :=
  ∀ s : State, s.Inv →
    let Enters (t : State) (lo hi : Word) : Prop :=
      ∃ v, SetsFlags s.p v [(.B, false), (.U, true)] ∧ SetsFlags s.p t.p [(.I, true)] ∧
        Stores s t [(stackAddr s.sp, hiByte s.pc), (stackAddr (s.sp - 1#8), loByte s.pc),
          (stackAddr (s.sp - 2#8), v)] ∧
        t.pc.toNat = (s.byteAt lo).toNat + 256 * (s.byteAt hi).toNat ∧
        t = { s with ram := t.ram, sp := s.sp - 3#8, p := t.p, pc := t.pc, cycles := s.cycles + 7 }
    Enters (nmi s) 0xFFFA#16 0xFFFB#16 ∧
    (getFlag .I s.p = false → Enters (irq s) 0xFFFE#16 0xFFFF#16) ∧
    (getFlag .I s.p = true → irq s = s)

/-- Returns undo what was taken. RTS with the stack bytes and `SP` as a JSR left them resumes at the
instruction after the JSR with `SP` as it was; RTI with them as an NMI or IRQ sequence left them resumes
at the interrupted instruction with `P` and `SP` as they were (43_control_flow.md R202, R204;
60_exceptions.md R255, R263; 44_stack_flag_system.md R241). -/
def Obligations.ReturnsUndoCallsAndInterrupts : Prop :=
  ∀ s u : State, s.Inv →
    (∀ (w : Word) (t : State), exec (.jsr w) s = .next t → u.ram = t.ram → u.sp = t.sp →
      ∃ v, exec .rts u = .next v ∧ v.pc = s.pc ∧ v.sp = s.sp) ∧
    (∀ t, (t = nmi s ∨ (getFlag .I s.p = false ∧ t = irq s)) → u.ram = t.ram → u.sp = t.sp →
      ∃ v, exec .rti u = .next v ∧ v.pc = s.pc ∧ v.p = s.p ∧ v.sp = s.sp)

/-- At each step NMI is taken first, and its request cleared; else IRQ if the line is high and `I` is 0;
else one instruction runs. After a sequence the PPU advances 21 dots (60_exceptions.md R260, R270). -/
def Obligations.StepTakesEventsInOrder : Prop :=
  ∀ s : State,
    (s.ppu.nmiPending = true →
      step s = .next (ppuTicks 21 (nmi { s with ppu := { s.ppu with nmiPending := false } }))) ∧
    (s.ppu.nmiPending = false → s.irqLine = true → getFlag .I s.p = false →
      step s = .next (ppuTicks 21 (irq s))) ∧
    (s.ppu.nmiPending = false → (s.irqLine = false ∨ getFlag .I s.p = true) →
      step s = afterInstr s.cycles (exec (fetchInstr s).1 (fetchInstr s).2))

/-! ## Faults and completion -/

/-- Each of the 105 illegal rows raises IllegalOpcode with its own byte and the address it was fetched
from, in every state (60_exceptions.md R251, 30_encoding.md R121). -/
def Obligations.IllegalRowsRaiseIllegalOpcode : Prop :=
  ∀ i : Instr, i.wellFormed = false →
    ∃ byte : Byte, encode i = [byte] ∧ opcodeDocumented byte = false ∧
      ∀ s : State, exec i s = .fault (.illegalOpcode byte (s.pc - 1#16))

/-- A step faults exactly when no interrupt sequence comes first and the byte at `PC` is none of the 151
opcodes; the fault carries that byte and its address. No step is refused (60_exceptions.md R251, R252,
R261). -/
def Obligations.StepFaultsExactlyOnIllegalOpcodes : Prop :=
  ∀ s : State,
    (∀ r : Fault, step s = .fault r ↔
      takePending s = none ∧ opcodeDocumented (s.byteAt s.pc) = false ∧
        r = .illegalOpcode (s.byteAt s.pc) s.pc) ∧
    (∀ r : Refusal, step s ≠ .refused r)

/-- Every documented instruction completes in every state, and takes at least two cycles
(30_encoding.md R120; 60_exceptions.md R252). -/
def Obligations.EveryDocumentedInstructionCompletes : Prop :=
  ∀ (i : Instr) (s : State), i.wellFormed = true →
    ∃ t, exec i s = .next t ∧ s.cycles + 2 ≤ t.cycles

/-! ## The step -/

/-- A step runs the decoded instruction: when no interrupt sequence comes first and the bytes the bus
gives from `PC` on, each with its side effect, are exactly the bytes of `i`, the step is `exec i` on the
state after those reads with `PC` past them, then the PPU's catch-up of three dots a cycle
(30_encoding.md R100, R101; 60_exceptions.md R270). -/
def Obligations.StepRunsTheDecodedInstruction : Prop :=
  ∀ (s : State) (n : Nat) (i : Instr),
    takePending s = none → decode (busBytes n s.pc s).1 = .ok i [] →
    step s = match exec i { (busBytes n s.pc s).2 with pc := s.pc + BitVec.ofNat 16 n } with
      | .next t => .next (ppuTicks (3 * (t.cycles - s.cycles)) t)
      | .fault r => .fault r
      | .refused r => .refused r

/-- An instruction placed by `withFetchWord` is the one the next step runs. The placement is the model's
own (log entry 7); the step is that of 60_exceptions.md section 6. -/
def Obligations.StepRunsThePlacedWord : Prop :=
  ∀ (s : State) (nbits w : Nat) (i : Instr), s.Inv → decodeTableWord nbits w = some i →
    let s' := s.withFetchWord nbits w
    step s' = afterInstr s.cycles (exec i { s' with pc := s'.pc + BitVec.ofNat 16 (encode i).length })

/-- The PPU advances exactly three dots for each CPU cycle a step consumes, and a step consumes at least
two (60_exceptions.md R271, C9). -/
def Obligations.PpuAdvancesThreeDotsPerCycle : Prop :=
  ∀ s t : State, s.Inv → step s = .next t →
    t.ppu.clock = s.ppu.clock + 3 * ((t.cycles : Int) - s.cycles) ∧ s.cycles + 2 ≤ t.cycles

/-- Every step keeps the machine's invariant: `P[5] = 1` and `P[4] = 0`, the PPU's counters in range, the
low bits of `status` 0, at most 8 sprites, controller indices in range, six-bit palette and pixels, and
every memory in canonical form and within its array (10_state.md R25, R30 to R32, R35). -/
def Obligations.StepKeepsTheInvariant : Prop :=
  ∀ s t : State, s.Inv → step s = .next t → t.Inv

/-- No step changes the cartridge, the host's inputs, the launch parameter or `frame_parity`, and CHR ROM
stays as loaded (10_state.md R31, R38; 20_memory.md R62, R63). -/
def Obligations.StepLeavesCartridgeAndInputsAlone : Prop :=
  ∀ s t : State, step s = .next t →
    t.cart = s.cart ∧ t.irqLine = s.irqLine ∧ t.ctrlHighBits = s.ctrlHighBits ∧
    t.frameParity = s.frameParity ∧ t.pad1.buttons = s.pad1.buttons ∧ t.pad2.buttons = s.pad2.buttons ∧
    (s.cart.chrBanks ≠ 0 → t.chr = s.chr)

/-! ## The bus -/

/-- Work RAM is mirrored every 0x800 through 0x1FFF: a write through any alias is read through every
alias, and every other byte of the space reads as before (20_memory.md R54). -/
def Obligations.WorkRamIsMirrored : Prop :=
  ∀ (s : State) (ea addr : Word) (v : Byte), s.Inv → ea.toNat < 0x2000 → addr.toNat < 0x2000 →
    memRead addr (memWrite ea v s) =
      (if ea.toNat % 2048 = addr.toNat % 2048 then v else (memRead addr s).1, memWrite ea v s)

/-- PRG ROM: with one bank both halves of 0x8000 to 0xFFFF read the same bytes, with two banks the second
half reads the second bank; a write does nothing (20_memory.md R61, R62). Unmapped reads give 0 and
unmapped writes do nothing (20_memory.md R58). -/
def Obligations.PrgRomAndUnmappedAddressesDropWrites : Prop :=
  ∀ (s : State) (addr : Word) (v : Byte),
    (0x8000 ≤ addr.toNat →
      memWrite addr v s = s ∧ (memRead addr s).2 = s ∧
      (s.cart.prgBanks = 1 → s.byteAt addr = s.cart.prgRom.read
        (if addr.toNat < 0xC000 then addr.toNat - 0x8000 else addr.toNat - 0xC000)) ∧
      (s.cart.prgBanks = 2 → s.byteAt addr = s.cart.prgRom.read (addr.toNat - 0x8000))) ∧
    (0x4000 ≤ addr.toNat → addr.toNat < 0x6000 →
      (addr ≠ 0x4016#16 → addr ≠ 0x4017#16 → memRead addr s = (0x00#8, s)) ∧
      (addr ≠ 0x4014#16 → addr ≠ 0x4016#16 → memWrite addr v s = s))

/-! ## The PPU registers -/

/-- Writes to PPUCTRL, PPUMASK, OAMADDR, OAMDATA, PPUSCROLL and PPUADDR through any mirror of 0x2000 to
0x2007, bit by bit; register 2 ignores writes (20_memory.md R55; 62_ppu.md R319 to R321, R323 to R326). -/
def Obligations.PpuRegisterWritesTakeTheirBits : Prop :=
  ∀ (s : State) (addr : Word) (v : Byte), 0x2000 ≤ addr.toNat → addr.toNat < 0x4000 →
    let p := s.ppu
    let p' := (memWrite addr v s).ppu
    let T (q : Ppu) (i : Nat) : Bool := bitOf q.t i
    let n := addr.toNat % 8
    (n ≠ 7 → memWrite addr v s = { s with ppu := p' }) ∧
    (n = 0 → p' = { p with ctrl := v, t := p'.t } ∧ T p' 10 = bitOf v 0 ∧ T p' 11 = bitOf v 1 ∧
      ∀ i, i ≠ 10 → i ≠ 11 → T p' i = T p i) ∧
    (n = 1 → p' = { p with mask := v }) ∧
    (n = 2 → p' = p) ∧
    (n = 3 → p' = { p with oamAddr := v }) ∧
    (n = 4 → p' = { p with oam := p.oam.write p.oamAddr.toNat v, oamAddr := p.oamAddr + 1#8 }) ∧
    (n = 5 → p.writeToggle = false →
      p' = { p with t := p'.t, fineX := p'.fineX, writeToggle := true } ∧
      (∀ i, i < 3 → bitOf p'.fineX i = bitOf v i) ∧
      ∀ i, T p' i = if i < 5 then bitOf v (i + 3) else T p i) ∧
    (n = 5 → p.writeToggle = true →
      p' = { p with t := p'.t, writeToggle := false } ∧
      ∀ i, T p' i = if 5 ≤ i ∧ i < 10 then bitOf v (i - 2) else if 12 ≤ i ∧ i < 15 then bitOf v (i - 12) else T p i) ∧
    (n = 6 → p.writeToggle = false →
      p' = { p with t := p'.t, writeToggle := true } ∧
      ∀ i, T p' i = if i < 8 then T p i else if i < 14 then bitOf v (i - 8) else false) ∧
    (n = 6 → p.writeToggle = true →
      p' = { p with t := p'.t, v := p'.t, writeToggle := false } ∧
      ∀ i, T p' i = if i < 8 then bitOf v i else T p i)

/-- Reads of the register window: 0x2002 returns bits 7 to 5 of `status` and clears bit 7 and the toggle;
0x2004 returns the OAM byte without moving; the write-only registers read 0; none changes anything else
(62_ppu.md R319, R322, R324). -/
def Obligations.PpuRegisterReadsHaveTheirEffects : Prop :=
  ∀ (s : State) (addr : Word), 0x2000 ≤ addr.toNat → addr.toNat < 0x4000 →
    let n := addr.toNat % 8
    let r := memRead addr s
    (n = 2 → r.2 = { s with ppu := { s.ppu with status := r.2.ppu.status, writeToggle := false } } ∧
      (∀ i, bitOf r.1 i = (decide (5 ≤ i) && bitOf s.ppu.status i)) ∧
      (∀ i, bitOf r.2.ppu.status i = (decide (i ≠ 7) && bitOf s.ppu.status i))) ∧
    (n = 4 → r = (s.ppu.oam.read s.ppu.oamAddr.toNat, s)) ∧
    (n = 0 ∨ n = 1 ∨ n = 3 ∨ n = 5 ∨ n = 6 → r = (0x00#8, s))

/-- 0x2007: a read below 0x3F00 returns the old buffer and refills it, a palette read returns the cell at
once and refills the buffer from 0x1000 lower; a write stores through the PPU bus; each moves `v` by 1 or
32 modulo 2^15 (62_ppu.md R327, R328). -/
def Obligations.PpuDataPortIsBufferedAndMovesV : Prop :=
  ∀ (s : State) (addr : Word) (val : Byte), 0x2000 ≤ addr.toNat → addr.toNat < 0x4000 → addr.toNat % 8 = 7 →
    let a : PpuAddr := BitVec.ofNat 14 (s.ppu.v.toNat % 16384)
    let next : VramReg := BitVec.ofNat 15 (s.ppu.v.toNat + if bitOf s.ppu.ctrl 2 then 32 else 1)
    (a.toNat < 0x3F00 →
      memRead addr s =
        (s.ppu.readBuffer, { s with ppu := { s.ppu with readBuffer := ppuRead s.ppuEnv s.ppu a, v := next } })) ∧
    (0x3F00 ≤ a.toNat →
      memRead addr s =
        (ppuRead s.ppuEnv s.ppu a,
          { s with ppu := { s.ppu with
              readBuffer := ppuRead s.ppuEnv s.ppu (BitVec.ofNat 14 (a.toNat - 0x1000)), v := next } })) ∧
    (let w := ppuWrite a val s
     memWrite addr val s = { w with ppu := { w.ppu with v := next } })

/-- The PPU bus: which cell each address names, in both mirrorings; a byte written in the nametables or
the palette is read back from every address that names the same cell, a palette cell keeps six bits, CHR
RAM is written and CHR ROM is not (62_ppu.md R310 to R313, 20_memory.md R63). -/
def Obligations.PpuBusReadsBackWhatWasWritten : Prop :=
  ∀ (s : State) (a b : PpuAddr) (v : Byte), s.Inv →
    let t := ppuWrite a v s
    let m := s.cart.mirroring
    let old := ppuRead s.ppuEnv s.ppu b
    let new := ppuRead t.ppuEnv t.ppu b
    old = ppuByte s.ppuEnv s.ppu b.toNat ∧
    (a.toNat < 0x2000 → b.toNat < 0x2000 →
      new = if s.cart.chrBanks = 0 ∧ a = b then v else old) ∧
    (0x2000 ≤ a.toNat → a.toNat < 0x3F00 → 0x2000 ≤ b.toNat → b.toNat < 0x3F00 →
      new = if ntCell m a.toNat = ntCell m b.toNat then v else old) ∧
    (0x3F00 ≤ a.toNat → 0x3F00 ≤ b.toNat →
      new = if palCell a.toNat = palCell b.toNat then v &&& 0x3F#8 else old) ∧
    ((a.toNat < 0x2000 ∧ 0x2000 ≤ b.toNat ∨ b.toNat < 0x2000 ∧ 0x2000 ≤ a.toNat ∨
      a.toNat < 0x3F00 ∧ 0x3F00 ≤ b.toNat ∨ b.toNat < 0x3F00 ∧ 0x3F00 ≤ a.toNat) → new = old)

/-! ## OAM DMA and controllers -/

/-- The OAM DMA: 256 bus reads of the page in ascending order, each with its side effect, byte `i` going to
`oam[(oam_addr + i) mod 256]` and `oam_addr` staying. From a page of memory the bytes copied are those of
the page and nothing else changes. `STA $4014` costs 4 + 513 cycles, one more when `cycles` was odd
(60_exceptions.md R275, R276). -/
def Obligations.OamDmaCopiesAPage : Prop :=
  ∀ (s : State) (page : Byte), s.Inv →
    oamDma page s = (List.range 256).foldl
      (fun u i =>
        let r := memRead (BitVec.ofNat 16 (page.toNat * 256 + i)) u
        { r.2 with ppu := { r.2.ppu with oam := r.2.ppu.oam.write ((s.ppu.oamAddr.toNat + i) % 256) r.1 } }) s ∧
    ((page.toNat < 0x20 ∨ 0x60 ≤ page.toNat) →
      ∃ m : Memory, oamDma page s = { s with ppu := { s.ppu with oam := m } } ∧
        ∀ i, i < 256 →
          m.read ((s.ppu.oamAddr.toNat + i) % 256) = s.byteAt (BitVec.ofNat 16 (page.toNat * 256 + i))) ∧
    (s.a = page →
      exec (.staAbs 0x4014#16) s =
        .next { oamDma page s with cycles := s.cycles + 4 + 513 + s.cycles % 2 })

/-- Controllers: bit 0 of a write sets the strobe, which holds the index at 0; after a latch sequence the
reads give the eight buttons in order and then 1 for ever; while the strobe is high every read gives A
(60_exceptions.md R280, R281). -/
def Obligations.ControllersShiftOutTheButtons : Prop :=
  ∀ (c : Controller) (v1 v0 : Byte) (n : Nat), bitOf v1 0 = true → bitOf v0 0 = false →
    (Nat.repeat Controller.afterRead n ((c.write v1).write v0)).readBit =
      (if n < 8 then bitOf c.buttons n else true) ∧
    (Nat.repeat Controller.afterRead n (c.write v1)).readBit = bitOf c.buttons 0 ∧
    (c.strobe = false → c.write v0 = c)

/-- The controllers on the bus: a write of 0x4016 reaches both, a read of 0x4016 or 0x4017 returns
`CTRL_HIGH_BITS` with the controller's bit and advances that controller only; the host's input replaces
one controller's buttons only (20_memory.md R57; 60_exceptions.md R281, R282). -/
def Obligations.ControllersOnTheBus : Prop :=
  ∀ (s : State) (v : Byte),
    memWrite 0x4016#16 v s = { s with pad1 := s.pad1.write v, pad2 := s.pad2.write v } ∧
    memWrite 0x4017#16 v s = s ∧
    (let r := memRead 0x4016#16 s
     r.2 = { s with pad1 := s.pad1.afterRead } ∧ bitOf r.1 0 = s.pad1.readBit ∧
     ∀ i, i < 7 → bitOf r.1 (i + 1) = bitOf s.ctrlHighBits i) ∧
    (let r := memRead 0x4017#16 s
     r.2 = { s with pad2 := s.pad2.afterRead } ∧ bitOf r.1 0 = s.pad2.readBit ∧
     ∀ i, i < 7 → bitOf r.1 (i + 1) = bitOf s.ctrlHighBits i) ∧
    setControllerInput 0 v s = { s with pad1 := { s.pad1 with buttons := v } } ∧
    setControllerInput 1 v s = { s with pad2 := { s.pad2 with buttons := v } }

/-! ## The PPU engine -/

/-- One tick: the counters go to the next position, from (260, 340) to (-1, 0) with one more frame; the
PPU never writes anything outside itself, nor VRAM, palette, OAM or its registers
(62_ppu.md R330, R333). -/
def Obligations.TickAdvancesTheCounters : Prop :=
  ∀ s : State,
    let p := s.ppu
    let q := (ppuTick s).ppu
    ppuTick s = { s with ppu := q } ∧
    (q.dot, q.scanline, q.frameCount) =
      (if p.dot = 340 then
        if p.scanline = 260 then (0, -1, p.frameCount + 1) else (0, p.scanline + 1, p.frameCount)
      else (p.dot + 1, p.scanline, p.frameCount)) ∧
    q.ctrl = p.ctrl ∧ q.mask = p.mask ∧ q.oamAddr = p.oamAddr ∧ q.t = p.t ∧ q.fineX = p.fineX ∧
    q.writeToggle = p.writeToggle ∧ q.readBuffer = p.readBuffer ∧
    q.vram = p.vram ∧ q.palette = p.palette ∧ q.oam = p.oam

/-- A tick sets the NMI request at (241, 1) when `ctrl[7]` is 1 and changes it at no other position, and no
instruction changes it. A tick sets the VBlank flag at (241, 1), clears it at (-1, 1) and changes it at no
other position; at (-1, 1) bits 7, 6 and 5 of `status` become 0 and the others stay, and at (241, 1) no
other bit changes, whether rendering is on or off. The read of 0x2002, the delivery of the request and the
soft reset are not ticks: their effects are in PpuRegisterReadsHaveTheirEffects, StepTakesEventsInOrder and
SoftResetWritesOnlyItsList (60_exceptions.md R253; 62_ppu.md R331, R332). -/
def Obligations.NmiRequestsComeFromVBlankStartOnly : Prop :=
  (∀ (env : PpuEnv) (p : Ppu),
    let q := p.tick env
    q.nmiPending = (p.nmiPending || (decide (p.scanline = 241) && decide (p.dot = 1) && bitOf p.ctrl 7)) ∧
    bitOf q.status 7 =
      (if p.scanline = 241 ∧ p.dot = 1 then true
       else if p.scanline = -1 ∧ p.dot = 1 then false else bitOf p.status 7) ∧
    (p.scanline = -1 → p.dot = 1 → ∀ i, i < 8 → bitOf q.status i = (decide (i < 5) && bitOf p.status i)) ∧
    (p.scanline = 241 → p.dot = 1 → ∀ i, i < 7 → bitOf q.status i = bitOf p.status i)) ∧
  (∀ (i : Instr) (s t : State), exec i s = .next t → t.ppu.nmiPending = s.ppu.nmiPending)

/-- The updates of `v`, by its fields: the X and Y increments; at dot 257 of a render line with rendering
enabled the horizontal fields come from `t` and the vertical ones stay; at dots 280 to 304 of the
pre-render line the vertical fields come from `t` and the horizontal ones stay (10_state.md R36;
62_ppu.md R340 to R343). -/
def Obligations.ScrollUpdatesByField : Prop :=
  (∀ (fy : BitVec 3) (nv nh : BitVec 1) (cy cx : BitVec 5),
    incX (fy ++ nv ++ nh ++ cy ++ cx) =
      (if cx = 31#5 then fy ++ nv ++ ~~~nh ++ cy ++ 0#5 else fy ++ nv ++ nh ++ cy ++ (cx + 1#5)) ∧
    incY (fy ++ nv ++ nh ++ cy ++ cx) =
      (if fy ≠ 7#3 then (fy + 1#3) ++ nv ++ nh ++ cy ++ cx
       else if cy = 29#5 then 0#3 ++ ~~~nv ++ nh ++ 0#5 ++ cx
       else if cy = 31#5 then 0#3 ++ nv ++ nh ++ 0#5 ++ cx
       else 0#3 ++ nv ++ nh ++ (cy + 1#5) ++ cx)) ∧
  (∀ (env : PpuEnv) (p : Ppu), p.renderingEnabled = true → -1 ≤ p.scanline → p.scanline ≤ 239 →
    (p.dot = 257 → ∀ i, i < 15 →
      bitOf (p.tick env).v i = if i < 5 ∨ i = 10 then bitOf p.t i else bitOf p.v i) ∧
    (p.scanline = -1 → 280 ≤ p.dot → p.dot ≤ 304 → ∀ i, i < 15 →
      bitOf (p.tick env).v i = if i < 5 ∨ i = 10 then bitOf p.v i else bitOf p.t i))

/-- The background pipeline at the dots 1 to 256 and 321 to 336 of a render line with rendering enabled,
by the position in its group of eight dots: nametable, attribute, low and high pattern fetch at positions
0, 2, 4 and 6; the shift by one at every dot; the reload and the X increment at position 7, the Y
increment at dot 256 (62_ppu.md R335 to R341). -/
def Obligations.BackgroundPipelineFetchesAndShifts : Prop :=
  ∀ (env : PpuEnv) (p : Ppu), p.renderingEnabled = true → -1 ≤ p.scanline → p.scanline ≤ 239 →
    ((1 ≤ p.dot ∧ p.dot ≤ 256) ∨ (321 ≤ p.dot ∧ p.dot ≤ 336)) →
    let q := p.tick env
    let pos := (p.dot - 1) % 8
    let v := p.v.toNat
    let coarseX := v % 32
    let coarseY := v / 32 % 32
    let attrByte := ppuByte env p (0x23C0 + v / 1024 % 4 * 1024 + coarseY / 4 * 8 + coarseX / 4)
    let row := (if bitOf p.ctrl 4 then 0x1000 else 0) + p.ntLatch.toNat * 16 + v / 4096
    let Shifts (old new : BitVec 16) (low : Nat → Bool) : Prop := ∀ j, j < 16 →
      bitOf new j = if pos = 7 ∧ j < 8 then low j else decide (1 ≤ j) && bitOf old (j - 1)
    q.ntLatch = (if pos = 0 then ppuByte env p (0x2000 + v % 4096) else p.ntLatch) ∧
    q.atLatch.toNat = (if pos = 2 then
      attrByte.toNat / 2 ^ (coarseY / 2 % 2 * 4 + coarseX / 2 % 2 * 2) % 4 else p.atLatch.toNat) ∧
    q.patLoLatch = (if pos = 4 then ppuByte env p row else p.patLoLatch) ∧
    q.patHiLatch = (if pos = 6 then ppuByte env p (row + 8) else p.patHiLatch) ∧
    Shifts p.bgPatLo q.bgPatLo (fun j => bitOf p.patLoLatch j) ∧
    Shifts p.bgPatHi q.bgPatHi (fun j => bitOf p.patHiLatch j) ∧
    Shifts p.bgAtLo q.bgAtLo (fun _ => bitOf p.atLatch 0) ∧
    Shifts p.bgAtHi q.bgAtHi (fun _ => bitOf p.atLatch 1) ∧
    q.v = (let v1 := if pos = 7 then incX p.v else p.v
           if p.dot = 256 then incY v1 else v1)

/-- What a tick leaves alone. With rendering off it makes no fetch, does not move `v` and does not evaluate
sprites (62_ppu.md R334). On the scanlines from 240 on it changes nothing but the counters and, at (241, 1),
the flag and the request; at the dots 0, 258 to 320 and 337 to 340 nothing but the counters, and `v` at dots
280 to 304 of the pre-render line (62_ppu.md R355). Further, at every position: the latches and shift
registers change at the fetch dots only, the sprites at dot 257 only, the framebuffer at the visible dots
only, and `status` at (-1, 1), (241, 1), the visible dots and dot 257 of a visible line with rendering
enabled only (62_ppu.md R330). -/
def Obligations.IdleTicksLeaveThePipelineAlone : Prop :=
  ∀ (env : PpuEnv) (p : Ppu),
    let q := p.tick env
    let still := p.renderingEnabled = false ∨ 240 ≤ p.scanline
    let idleDot := p.dot = 0 ∨ (258 ≤ p.dot ∧ p.dot ≤ 320) ∨ (337 ≤ p.dot ∧ p.dot ≤ 340)
    let visibleLine := 0 ≤ p.scanline ∧ p.scanline ≤ 239
    (still ∨ idleDot ∨ p.dot = 257 →
      q.ntLatch = p.ntLatch ∧ q.atLatch = p.atLatch ∧
      q.patLoLatch = p.patLoLatch ∧ q.patHiLatch = p.patHiLatch ∧
      q.bgPatLo = p.bgPatLo ∧ q.bgPatHi = p.bgPatHi ∧ q.bgAtLo = p.bgAtLo ∧ q.bgAtHi = p.bgAtHi) ∧
    (still ∨ (idleDot ∧ ¬ (p.scanline = -1 ∧ 280 ≤ p.dot ∧ p.dot ≤ 304)) → q.v = p.v) ∧
    (still ∨ p.dot ≠ 257 → q.secondaryOam = p.secondaryOam ∧ q.sprites = p.sprites) ∧
    (240 ≤ p.scanline ∨ p.dot ≠ 257 →
      q.spriteCount = p.spriteCount ∧ q.spriteZeroSelected = p.spriteZeroSelected) ∧
    (¬ (visibleLine ∧ 1 ≤ p.dot ∧ p.dot ≤ 256) → q.framebuffer = p.framebuffer) ∧
    (¬ (p.scanline = 241 ∧ p.dot = 1) → q.nmiPending = p.nmiPending) ∧
    (¬ (p.scanline = 241 ∧ p.dot = 1) → ¬ (p.scanline = -1 ∧ p.dot = 1) →
      ¬ (visibleLine ∧ 1 ≤ p.dot ∧ p.dot ≤ 256) →
      ¬ (visibleLine ∧ p.dot = 257 ∧ p.renderingEnabled = true) → q.status = p.status)

/-- Sprite evaluation: the first eight OAM entries that match the scanline, in order, fill secondary OAM,
the rest of which is FF; a ninth match sets the overflow flag, which is never cleared here; sprite zero
is selected exactly when entry 0 matches; the sprite units are those of `evaluateSprites`, whose rows
SpriteFetchReadsTheSelectedRows states. It runs at dot 257 of the visible lines with rendering enabled; else
that dot of a render line clears the selection (62_ppu.md R345, R346, R348). -/
def Obligations.SpriteEvaluationSelectsTheFirstEight : Prop :=
  ∀ (env : PpuEnv) (p : Ppu), p.dot = 257 → -1 ≤ p.scanline → p.scanline ≤ 239 →
    let q := p.tick env
    let hits := (List.range 64).filter fun k =>
      decide ((p.oam.read (4 * k)).toNat ≤ p.scanline.toNat) &&
        decide (p.scanline.toNat < (p.oam.read (4 * k)).toNat + if bitOf p.ctrl 5 then 16 else 8)
    (p.renderingEnabled = true → 0 ≤ p.scanline →
      q.spriteCount = min 8 hits.length ∧
      q.spriteZeroSelected = decide (0 ∈ hits) ∧
      q.status = (if 8 < hits.length then p.status ||| 0x20#8 else p.status) ∧
      (∀ n j, n < q.spriteCount → j < 4 →
        q.secondaryOam.read (4 * n + j) = p.oam.read (4 * hits.getD n 0 + j)) ∧
      (∀ k, 4 * q.spriteCount ≤ k → k < 32 → q.secondaryOam.read k = 0xFF#8) ∧
      q.sprites = (p.evaluateSprites env p.scanline.toNat).sprites) ∧
    (p.renderingEnabled = false ∨ p.scanline = -1 →
      q.spriteCount = 0 ∧ q.spriteZeroSelected = false ∧ q.secondaryOam = p.secondaryOam ∧
      q.sprites = p.sprites)

/-- The sprite fetch for each selected sprite: the row after the vertical flip, the pattern half from
`ctrl[3]` or, for 8×16 sprites, from bit 0 of the tile, both planes mirrored by the horizontal flip; the
units after the last selected one keep what they held (62_ppu.md R347). -/
def Obligations.SpriteFetchReadsTheSelectedRows : Prop :=
  ∀ (env : PpuEnv) (p : Ppu) (s n : Nat), s < 240 → n < 8 →
    let q := p.evaluateSprites env s
    let tile := (q.secondaryOam.read (4 * n + 1)).toNat
    let attr := q.secondaryOam.read (4 * n + 2)
    let line := s - (q.secondaryOam.read (4 * n)).toNat
    let row := if bitOf attr 7 then (if bitOf p.ctrl 5 then 16 else 8) - 1 - line else line
    let addr := if bitOf p.ctrl 5 then tile % 2 * 0x1000 + (tile / 2 * 2 + row / 8) * 16 + row % 8
      else (if bitOf p.ctrl 3 then 0x1000 else 0) + tile * 16 + row
    let Plane (new : Byte) (a : Nat) : Prop := ∀ j, j < 8 →
      bitOf new j = bitOf (ppuByte env p a) (if bitOf attr 6 then 7 - j else j)
    (n < q.spriteCount → ∃ u, q.sprites[n]? = some u ∧ u.attr = attr ∧
      u.x = q.secondaryOam.read (4 * n + 3) ∧ Plane u.patLo addr ∧ Plane u.patHi (addr + 8)) ∧
    (q.spriteCount ≤ n → q.sprites[n]? = p.sprites[n]?)

/-- The pixels a column offers: the background's value and palette from bit `15 - fine_x` of the shift
registers; the sprite pixel of the first selected unit that is opaque there; each 0 or none where its
layer is off, or in the left eight columns where those are masked (62_ppu.md R350, R351). -/
def Obligations.PixelSourcesFollowTheirRules : Prop :=
  ∀ (p : Ppu) (x : Nat),
    let sel := 15 - p.fineX.toNat
    let two (hi lo : Bool) : Nat := 2 * hi.toNat + lo.toNat
    let shown (layer left : Nat) : Bool := bitOf p.mask layer && (decide (8 ≤ x) || bitOf p.mask left)
    let value (u : SpriteUnit) : Nat :=
      if u.x.toNat ≤ x ∧ x ≤ u.x.toNat + 7 then
        two (bitOf u.patHi (7 - (x - u.x.toNat))) (bitOf u.patLo (7 - (x - u.x.toNat))) else 0
    (p.backgroundPixel x).px.toNat =
      (if shown 3 1 then two (bitOf p.bgPatHi sel) (bitOf p.bgPatLo sel) else 0) ∧
    (p.backgroundPixel x).pal.toNat = two (bitOf p.bgAtHi sel) (bitOf p.bgAtLo sel) ∧
    (p.spritePixel x = none ↔
      shown 4 2 = false ∨ ∀ n u, n < p.spriteCount → p.sprites[n]? = some u → value u = 0) ∧
    (∀ c, p.spritePixel x = some c → shown 4 2 = true ∧
      ∃ n u, n < p.spriteCount ∧ p.sprites[n]? = some u ∧ value u ≠ 0 ∧
        (∀ k w, k < n → p.sprites[k]? = some w → value w = 0) ∧
        c.pixel.px.toNat = value u ∧ c.pixel.pal.toNat = u.attr.toNat % 4 ∧ c.behind = bitOf u.attr 5 ∧
        c.isZero = (decide (n = 0) && p.spriteZeroSelected))

/-- A visible dot writes exactly its cell of the framebuffer, with the palette value the composition rule
chooses, and sets the sprite-zero flag exactly in the case of 62_ppu.md R353, whether rendering is on or
off (62_ppu.md R352, R353). -/
def Obligations.PixelOutputWritesItsCell : Prop :=
  ∀ (env : PpuEnv) (p : Ppu) (y x : Nat), p.Inv → y < 240 → x < 256 → p.scanline = y → p.dot = x + 1 →
    let q := p.tick env
    let bg := p.backgroundPixel x
    let cell (n : Nat) : Byte := p.palette.read (palCell n)
    let bgCell := cell (bg.pal.toNat * 4 + bg.px.toNat)
    let spCell (c : SpritePixel) : Byte := cell (16 + c.pixel.pal.toNat * 4 + c.pixel.px.toNat)
    (∀ k, k ≠ 256 * y + x → q.framebuffer.read k = p.framebuffer.read k) ∧
    q.framebuffer.read (256 * y + x) =
      (match p.spritePixel x with
       | none => if bg.px = 0#2 then cell 0 else bgCell
       | some c => if bg.px = 0#2 then spCell c else if c.behind then bgCell else spCell c) ∧
    q.status =
      (match p.spritePixel x with
       | none => p.status
       | some c => if bg.px ≠ 0#2 ∧ c.isZero = true ∧ x ≠ 255 then p.status ||| 0x40#8 else p.status)

/-! ## Reset, loading, the frame loop -/

/-- What reset leaves, where the spec gives a value: `SP`, `P`, the cycles, `PC` from the vector at
0xFFFC, the PPU's position, registers, latches, shift registers, sprite units and framebuffer, the
controllers and the System's parity; and the invariant holds. The cartridge and the OPEN values are the
model's choice (log entries 2, 3, 4, 5) (10_state.md R40, R41). -/
def Obligations.ResetLeavesTheSpecsValues : Prop :=
  let s := State.reset
  s.sp = 0xFD#8 ∧ s.p = 0x24#8 ∧ s.cycles = 8 ∧
  s.pc.toNat = (s.byteAt 0xFFFC#16).toNat + 256 * (s.byteAt 0xFFFD#16).toNat ∧
  s.ppu.scanline = -1 ∧ s.ppu.dot = 0 ∧ s.ppu.ctrl = 0x00#8 ∧ s.ppu.mask = 0x00#8 ∧ s.ppu.status = 0x00#8 ∧
  s.ppu.oamAddr = 0x00#8 ∧ s.ppu.v = 0#15 ∧ s.ppu.t = 0#15 ∧ s.ppu.fineX = 0#3 ∧
  s.ppu.writeToggle = false ∧ s.ppu.readBuffer = 0x00#8 ∧ s.ppu.nmiPending = false ∧
  s.ppu.ntLatch = 0x00#8 ∧ s.ppu.atLatch = 0#2 ∧ s.ppu.patLoLatch = 0x00#8 ∧ s.ppu.patHiLatch = 0x00#8 ∧
  s.ppu.bgPatLo = 0#16 ∧ s.ppu.bgPatHi = 0#16 ∧ s.ppu.bgAtLo = 0#16 ∧ s.ppu.bgAtHi = 0#16 ∧
  s.ppu.spriteCount = 0 ∧ s.ppu.spriteZeroSelected = false ∧
  (∀ u ∈ s.ppu.sprites.toList, u.patLo = 0x00#8 ∧ u.patHi = 0x00#8 ∧ u.attr = 0x00#8 ∧ u.x = 0x00#8) ∧
  (∀ k, s.ppu.framebuffer.read k = 0x00#8) ∧ s.ppu.frameCount = 0 ∧ s.frameParity = false ∧
  s.pad1 = Controller.powerOn ∧ s.pad2 = Controller.powerOn ∧ s.Inv

/-- The soft reset: `PC` from the vector, `SP`, `P`, 8 cycles, the seven PPU latches; everything else as
before, memories, `A`, `X`, `Y` and the PPU's position included (70_reset_and_hazards.md R381). -/
def Obligations.SoftResetWritesOnlyItsList : Prop :=
  ∀ s : State,
    let t := softReset s
    t.pc.toNat = (s.byteAt 0xFFFC#16).toNat + 256 * (s.byteAt 0xFFFD#16).toNat ∧
    t = { s with
      pc := t.pc, sp := 0xFD#8, p := 0x24#8, cycles := s.cycles + 8
      ppu := { s.ppu with
        ctrl := 0x00#8, mask := 0x00#8, writeToggle := false, readBuffer := 0x00#8
        t := 0#15, fineX := 0#3, nmiPending := false } }

/-- `load` checks the magic, then the length, then the mapper, in that order, and gives a System only
when all pass (70_reset_and_hazards.md R386). -/
def Obligations.LoadChecksInOrder : Prop :=
  ∀ (image : List Byte) (params : Config.LaunchParams),
    let b (n : Nat) : Byte := image.getD n 0x00#8
    let magicOk := 4 ≤ image.length ∧ b 0 = 0x4E#8 ∧ b 1 = 0x45#8 ∧ b 2 = 0x53#8 ∧ b 3 = 0x1A#8
    let need := 16 + (if bitOf (b 6) 2 then 512 else 0) + 16384 * (b 4).toNat + 8192 * (b 5).toNat
    let longEnough := 16 ≤ image.length ∧ need ≤ image.length
    let mapperId : Byte := BitVec.ofNat 8 ((b 6).toNat / 16 + (b 7).toNat / 16 * 16)
    let fits := ((b 4).toNat = 1 ∨ (b 4).toNat = 2) ∧ (b 5).toNat ≤ 1 ∧ bitOf (b 6) 3 = false
    (¬ magicOk → load image params = .error .badMagic) ∧
    (magicOk → ¬ longEnough → load image params = .error .truncatedData) ∧
    (magicOk → longEnough → mapperId ≠ 0x00#8 → load image params = .error (.unsupportedMapper mapperId)) ∧
    (magicOk → longEnough → mapperId = 0x00#8 → ¬ fits → load image params = .error (.unsupportedMapper 0x00#8)) ∧
    (magicOk → longEnough → mapperId = 0x00#8 → fits → ∃ s, load image params = .system s)

/-- A loaded machine is ready: the header's fields, PRG ROM and CHR from their places in the image; every
parameter of the launch where 00_scope.md R6 and 10_state.md R40, R41 put it (`A_INIT`, `X_INIT`, `Y_INIT`,
`RAM_INIT`, `PRGRAM_INIT`, `CTRL_HIGH_BITS`, the initial VRAM, palette, OAM, secondary OAM and CHR RAM); all
else as power-on and reset leave it; and the invariant (70_reset_and_hazards.md R380, R384, R385). That
initial contents shorter than their memory end in zeros, and that an initial palette byte keeps six bits, are
the model's choice (log entries 4, 16). -/
def Obligations.LoadedMachineIsReady : Prop :=
  ∀ (image : List Byte) (params : Config.LaunchParams) (s : State), load image params = .system s →
    let b (n : Nat) : Byte := image.getD n 0x00#8
    let off := 16 + if bitOf (b 6) 2 then 512 else 0
    let Holds (m : Memory) (size : Nat) (init : List Byte) : Prop :=
      ∀ k, k < size → m.read k = init.getD k 0x00#8
    s.Inv ∧ s.sp = 0xFD#8 ∧ s.p = 0x24#8 ∧ s.cycles = 8 ∧ s.a = params.aInit ∧ s.x = params.xInit ∧
    s.y = params.yInit ∧ s.ppu.scanline = -1 ∧ s.ppu.dot = 0 ∧ s.ppu.nmiPending = false ∧
    s.pc.toNat = (s.byteAt 0xFFFC#16).toNat + 256 * (s.byteAt 0xFFFD#16).toNat ∧
    s.cart.prgBanks = (b 4).toNat ∧ s.cart.chrBanks = (b 5).toNat ∧
    s.cart.mirroring = (if bitOf (b 6) 0 then .horizontal else .vertical) ∧
    s.cart.hasBattery = bitOf (b 6) 1 ∧ s.cart.hasTrainer = bitOf (b 6) 2 ∧
    (∀ k, k < 16384 * s.cart.prgBanks → s.cart.prgRom.read k = b (off + k)) ∧
    (s.cart.chrBanks = 1 → ∀ k, k < 8192 → s.chr.read k = b (off + 16384 * s.cart.prgBanks + k)) ∧
    (s.cart.chrBanks = 0 → Holds s.chr 8192 params.chrInit) ∧
    Holds s.ram 2048 params.ramInit ∧ Holds s.prgRam 8192 params.prgRamInit ∧
    Holds s.ppu.vram 2048 params.vramInit ∧ Holds s.ppu.oam 256 params.oamInit ∧
    Holds s.ppu.secondaryOam 32 params.secondaryOamInit ∧
    (∀ k, k < 32 → s.ppu.palette.read k = params.paletteInit.getD k 0x00#8 &&& 0x3F#8) ∧
    s.ctrlHighBits = params.ctrlHighBits ∧
    s.ppu = { State.reset.ppu with
      vram := s.ppu.vram, palette := s.ppu.palette, oam := s.ppu.oam, secondaryOam := s.ppu.secondaryOam } ∧
    s.pad1 = Controller.powerOn ∧ s.pad2 = Controller.powerOn ∧ s.frameParity = false ∧ s.irqLine = false

/-- `step_frame()` consumes at least its target of cycles, 29780 or 29781 by the parity, advances the PPU
three dots a cycle, keeps the invariant and flips the parity; when a fault ends it the parity is not
flipped (60_exceptions.md R271 to R273). -/
def Obligations.StepFrameConsumesItsTarget : Prop :=
  ∀ s : State, s.Inv →
    (∀ t, stepFrame s = .returned t →
      s.cycles + (if s.frameParity then 29781 else 29780) ≤ t.cycles ∧
      t.ppu.clock = s.ppu.clock + 3 * ((t.cycles : Int) - s.cycles) ∧
      t.frameParity = !s.frameParity ∧ t.Inv) ∧
    (∀ r left, stepFrame s = .faulted r left → left.frameParity = s.frameParity) ∧
    (∀ r left, stepFrame s ≠ .refused r left)
end

