-- ==== Sys2Proof/Laws/Memory.lean ====
section
/-! SUPPORT. The laws of one memory array: a read after a write, the canonical form and the bounds are
kept, and equal contents are equal data. -/

namespace Sys2Proof.Machine

@[simp] theorem Memory.read_nil (k : Nat) : Memory.read [] k = unlistedByte := rfl

theorem Memory.read_cons (j : Nat) (v : Byte) (m : Memory) (k : Nat) :
    Memory.read ((j, v) :: m) k = if j = k then v else Memory.read m k := rfl

/-- A memory whose keys start above `k` reads as unlisted at `k`. -/
theorem Memory.read_below {lo k : Nat} {m : Memory} (h : Memory.risesFrom lo m = true) (hk : k < lo) :
    Memory.read m k = unlistedByte := by
  induction m generalizing lo with
  | nil => rfl
  | cons c m ih =>
    obtain ⟨j, v⟩ := c
    simp only [Memory.risesFrom, Bool.and_eq_true, decide_eq_true_eq] at h
    rw [Memory.read_cons, if_neg (by omega)]
    exact ih h.2 (by omega)

theorem Memory.risesFrom_mono {lo lo' : Nat} {m : Memory} (h : Memory.risesFrom lo m = true)
    (hl : lo' ≤ lo) : Memory.risesFrom lo' m = true := by
  cases m with
  | nil => rfl
  | cons c m =>
    obtain ⟨j, v⟩ := c
    simp only [Memory.risesFrom, Bool.and_eq_true, decide_eq_true_eq] at h ⊢
    exact ⟨⟨by omega, h.1.2⟩, h.2⟩

theorem Memory.read_cell_append (k : Nat) (v : Byte) (m : Memory) (j : Nat)
    (h : j = k → Memory.read m j = unlistedByte) :
    Memory.read (Memory.cell k v ++ m) j = if k = j then v else Memory.read m j := by
  unfold Memory.cell
  split
  · rename_i hv
    by_cases hj : k = j
    · simp [hj, hv, h hj.symm]
    · simp [hj]
  · rfl

/-- A read gives the last byte written to its cell, and a write leaves every other cell alone. -/
theorem Memory.read_write {m : Memory} (h : m.wf = true) (k : Nat) (v : Byte) (j : Nat) :
    (m.write k v).read j = if k = j then v else m.read j := by
  suffices ∀ lo, Memory.risesFrom lo m = true →
      (m.write k v).read j = if k = j then v else m.read j from this 0 h
  induction m with
  | nil =>
    intro lo _
    have := Memory.read_cell_append k v [] j (fun _ => rfl)
    simpa [Memory.write] using this
  | cons c m ih =>
    obtain ⟨i, w⟩ := c
    intro lo hr
    simp only [Memory.risesFrom, Bool.and_eq_true, decide_eq_true_eq] at hr
    have htail := hr.2
    unfold Memory.write
    split
    · rename_i hki
      apply Memory.read_cell_append
      intro hj
      rw [Memory.read_cons, if_neg (by omega)]
      exact Memory.read_below htail (by omega)
    · split
      · rename_i hki
        subst hki
        rw [Memory.read_cell_append _ _ _ _ (fun hj => Memory.read_below htail (by omega)),
          Memory.read_cons]
        by_cases hj : k = j <;> simp [hj]
      · rename_i h1 h2
        rw [Memory.read_cons, Memory.read_cons, ih (by exact Memory.risesFrom_mono htail (by omega)) _ htail]
        by_cases hj : i = j
        · simp [hj]; omega
        · simp [hj]

theorem Memory.risesFrom_cell_append {lo k : Nat} {v : Byte} {m : Memory} (hk : lo ≤ k)
    (h : Memory.risesFrom (k + 1) m = true) : Memory.risesFrom lo (Memory.cell k v ++ m) = true := by
  unfold Memory.cell
  split
  · exact Memory.risesFrom_mono h (by omega)
  · rename_i hv
    simp [Memory.risesFrom, hk, hv, h]

theorem Memory.risesFrom_write {lo : Nat} {m : Memory} (h : Memory.risesFrom lo m = true) {k : Nat}
    (hk : lo ≤ k) (v : Byte) : Memory.risesFrom lo (m.write k v) = true := by
  induction m generalizing lo with
  | nil => simpa [Memory.write] using Memory.risesFrom_cell_append (m := []) hk rfl
  | cons c m ih =>
    obtain ⟨i, w⟩ := c
    have h0 := h
    simp only [Memory.risesFrom, Bool.and_eq_true, decide_eq_true_eq] at h
    unfold Memory.write
    split
    · apply Memory.risesFrom_cell_append hk
      simp only [Memory.risesFrom, Bool.and_eq_true, decide_eq_true_eq]
      exact ⟨⟨by omega, h.1.2⟩, h.2⟩
    · split
      · rename_i hki
        subst hki
        exact Memory.risesFrom_cell_append hk h.2
      · simp only [Memory.risesFrom, Bool.and_eq_true, decide_eq_true_eq]
        exact ⟨h.1, ih h.2 (by omega)⟩

/-- A write keeps the canonical form. -/
theorem Memory.wf_write {m : Memory} (h : m.wf = true) (k : Nat) (v : Byte) : (m.write k v).wf = true :=
  Memory.risesFrom_write h (Nat.zero_le k) v

theorem Memory.fits_cell_append {size k : Nat} {m : Memory} (hk : k < size) (v : Byte)
    (h : m.fits size = true) : (Memory.cell k v ++ m : Memory).fits size = true := by
  unfold Memory.cell
  split
  · simpa using h
  · simpa [Memory.fits, hk] using h

/-- A write inside the array keeps the array's bounds. -/
theorem Memory.fits_write {size k : Nat} {m : Memory} (h : m.fits size = true) (hk : k < size) (v : Byte) :
    (m.write k v).fits size = true := by
  induction m with
  | nil => simpa [Memory.write] using Memory.fits_cell_append (m := []) hk v rfl
  | cons c m ih =>
    obtain ⟨i, w⟩ := c
    have h' : i < size ∧ Memory.fits size m = true := by simpa [Memory.fits] using h
    unfold Memory.write
    split
    · exact Memory.fits_cell_append hk v h
    · split
      · exact Memory.fits_cell_append hk v h'.2
      · simpa [Memory.fits, h'.1] using ih h'.2

/-- Every byte a memory lists has a property, and the unlisted byte has it too. -/
theorem Memory.read_of_forall {P : Byte → Prop} (h0 : P unlistedByte) {m : Memory}
    (h : ∀ c ∈ m, P c.2) (k : Nat) : P (m.read k) := by
  induction m with
  | nil => exact h0
  | cons c m ih =>
    obtain ⟨j, v⟩ := c
    rw [Memory.read_cons]
    split
    · exact h (j, v) List.mem_cons_self
    · exact ih fun c hc => h c (List.mem_cons_of_mem _ hc)

theorem Memory.risesFrom_ofBytesFrom (bytes : List Byte) (k : Nat) :
    Memory.risesFrom k (Memory.ofBytesFrom k bytes) = true := by
  induction bytes generalizing k with
  | nil => rfl
  | cons v bytes ih => exact Memory.risesFrom_cell_append (Nat.le_refl k) (ih (k + 1))

/-- A memory made from bytes is in canonical form. -/
theorem Memory.wf_ofBytes (bytes : List Byte) : (Memory.ofBytes bytes).wf = true :=
  Memory.risesFrom_ofBytesFrom bytes 0

theorem Memory.fits_ofBytesFrom {size k : Nat} {bytes : List Byte} (h : k + bytes.length ≤ size) :
    (Memory.ofBytesFrom k bytes).fits size = true := by
  induction bytes generalizing k with
  | nil => rfl
  | cons v bytes ih =>
    simp only [List.length_cons] at h
    exact Memory.fits_cell_append (by omega) v (ih (by omega))

/-- A memory made from at most `size` bytes lies in an array of `size` cells. -/
theorem Memory.fits_ofBytes {size : Nat} {bytes : List Byte} (h : bytes.length ≤ size) :
    (Memory.ofBytes bytes).fits size = true :=
  Memory.fits_ofBytesFrom (by omega)

theorem Memory.read_ofBytesFrom (bytes : List Byte) (k j : Nat) :
    (Memory.ofBytesFrom k bytes).read j = if k ≤ j then bytes.getD (j - k) unlistedByte else unlistedByte := by
  induction bytes generalizing k with
  | nil => simp [Memory.ofBytesFrom]
  | cons v bytes ih =>
    have hb := Memory.risesFrom_ofBytesFrom bytes (k + 1)
    rw [Memory.ofBytesFrom, Memory.read_cell_append _ _ _ _ (fun hj => Memory.read_below hb (by omega)),
      ih (k + 1)]
    by_cases h1 : k = j
    · simp [h1]
    · by_cases h2 : k + 1 ≤ j
      · rw [if_neg h1, if_pos h2, if_pos (by omega), show j - k = (j - (k + 1)) + 1 by omega]
        rfl
      · rw [if_neg h1, if_neg h2, if_neg (by omega)]

/-- Cell `j` of a memory made from bytes is byte `j`. -/
theorem Memory.read_ofBytes (bytes : List Byte) (j : Nat) :
    (Memory.ofBytes bytes).read j = bytes.getD j unlistedByte := by
  have h := Memory.read_ofBytesFrom bytes 0 j
  simpa [Memory.ofBytes] using h

/-- A memory made from the first `size` bytes of a list holds byte `j` of the list in each of its cells. -/
theorem Memory.read_ofBytes_take (bytes : List Byte) {size j : Nat} (h : j < size) :
    (Memory.ofBytes (bytes.take size)).read j = bytes.getD j unlistedByte := by
  rw [Memory.read_ofBytes, List.getD_eq_getElem?_getD, List.getElem?_take, if_pos h, List.getD_eq_getElem?_getD]

/-- The first key of a canonical memory is listed. -/
theorem Memory.read_head_ne {lo j : Nat} {v : Byte} {m : Memory}
    (h : Memory.risesFrom lo ((j, v) :: m) = true) : Memory.read ((j, v) :: m) j ≠ unlistedByte := by
  simp only [Memory.risesFrom, Bool.and_eq_true, decide_eq_true_eq] at h
  simpa [Memory.read_cons] using h.1.2

theorem Memory.ext_from {lo : Nat} {m n : Memory} (hm : Memory.risesFrom lo m = true)
    (hn : Memory.risesFrom lo n = true) (h : ∀ k, m.read k = n.read k) : m = n := by
  induction m generalizing lo n with
  | nil =>
    cases n with
    | nil => rfl
    | cons c n => exact absurd (h c.1).symm (Memory.read_head_ne hn)
  | cons c m ih =>
    obtain ⟨j, v⟩ := c
    cases n with
    | nil => exact absurd (h j) (Memory.read_head_ne hm)
    | cons d n =>
      obtain ⟨i, w⟩ := d
      have hm' := hm
      have hn' := hn
      simp only [Memory.risesFrom, Bool.and_eq_true, decide_eq_true_eq] at hm' hn'
      have hji : j = i := by
        rcases Nat.lt_trichotomy j i with hlt | heq | hlt
        · refine absurd ((h j).trans ?_) (Memory.read_head_ne hm)
          rw [Memory.read_cons, if_neg (by omega)]
          exact Memory.read_below hn'.2 (by omega)
        · exact heq
        · refine absurd ((h i).symm.trans ?_) (Memory.read_head_ne hn)
          rw [Memory.read_cons, if_neg (by omega)]
          exact Memory.read_below hm'.2 (by omega)
      subst hji
      have hvw : v = w := by simpa [Memory.read_cons] using h j
      subst hvw
      rw [ih hm'.2 hn'.2]
      intro k
      by_cases hk : j = k
      · subst hk
        rw [Memory.read_below hm'.2 (by omega), Memory.read_below hn'.2 (by omega)]
      · simpa [Memory.read_cons, hk] using h k

/-- Two canonical memories with the same contents are the same list. -/
theorem Memory.ext {m n : Memory} (hm : m.wf = true) (hn : n.wf = true)
    (h : ∀ k, m.read k = n.read k) : m = n :=
  Memory.ext_from hm hn h

end Sys2Proof.Machine
end

