-- ==== Sys2Proof/Laws/State.lean ====
section
/-! SUPPORT. What each named update of `State` writes and leaves alone, one lemma per field. -/

namespace Sys2Proof.Machine

@[simp] theorem State.setA_a (s : State) (v : Byte) : (s.setA v).a = v := rfl
@[simp] theorem State.setA_x (s : State) (v : Byte) : (s.setA v).x = s.x := rfl
@[simp] theorem State.setA_y (s : State) (v : Byte) : (s.setA v).y = s.y := rfl
@[simp] theorem State.setA_sp (s : State) (v : Byte) : (s.setA v).sp = s.sp := rfl
@[simp] theorem State.setA_p (s : State) (v : Byte) : (s.setA v).p = s.p := rfl
@[simp] theorem State.setA_pc (s : State) (v : Byte) : (s.setA v).pc = s.pc := rfl
@[simp] theorem State.setA_cycles (s : State) (v : Byte) : (s.setA v).cycles = s.cycles := rfl
@[simp] theorem State.setA_ram (s : State) (v : Byte) : (s.setA v).ram = s.ram := rfl
@[simp] theorem State.setA_prgRam (s : State) (v : Byte) : (s.setA v).prgRam = s.prgRam := rfl
@[simp] theorem State.setA_chr (s : State) (v : Byte) : (s.setA v).chr = s.chr := rfl
@[simp] theorem State.setA_cart (s : State) (v : Byte) : (s.setA v).cart = s.cart := rfl
@[simp] theorem State.setA_ppu (s : State) (v : Byte) : (s.setA v).ppu = s.ppu := rfl
@[simp] theorem State.setA_pad1 (s : State) (v : Byte) : (s.setA v).pad1 = s.pad1 := rfl
@[simp] theorem State.setA_pad2 (s : State) (v : Byte) : (s.setA v).pad2 = s.pad2 := rfl
@[simp] theorem State.setA_frameParity (s : State) (v : Byte) : (s.setA v).frameParity = s.frameParity := rfl
@[simp] theorem State.setA_irqLine (s : State) (v : Byte) : (s.setA v).irqLine = s.irqLine := rfl
@[simp] theorem State.setA_ctrlHighBits (s : State) (v : Byte) : (s.setA v).ctrlHighBits = s.ctrlHighBits := rfl

@[simp] theorem State.setX_a (s : State) (v : Byte) : (s.setX v).a = s.a := rfl
@[simp] theorem State.setX_x (s : State) (v : Byte) : (s.setX v).x = v := rfl
@[simp] theorem State.setX_y (s : State) (v : Byte) : (s.setX v).y = s.y := rfl
@[simp] theorem State.setX_sp (s : State) (v : Byte) : (s.setX v).sp = s.sp := rfl
@[simp] theorem State.setX_p (s : State) (v : Byte) : (s.setX v).p = s.p := rfl
@[simp] theorem State.setX_pc (s : State) (v : Byte) : (s.setX v).pc = s.pc := rfl
@[simp] theorem State.setX_cycles (s : State) (v : Byte) : (s.setX v).cycles = s.cycles := rfl
@[simp] theorem State.setX_ram (s : State) (v : Byte) : (s.setX v).ram = s.ram := rfl
@[simp] theorem State.setX_prgRam (s : State) (v : Byte) : (s.setX v).prgRam = s.prgRam := rfl
@[simp] theorem State.setX_chr (s : State) (v : Byte) : (s.setX v).chr = s.chr := rfl
@[simp] theorem State.setX_cart (s : State) (v : Byte) : (s.setX v).cart = s.cart := rfl
@[simp] theorem State.setX_ppu (s : State) (v : Byte) : (s.setX v).ppu = s.ppu := rfl
@[simp] theorem State.setX_pad1 (s : State) (v : Byte) : (s.setX v).pad1 = s.pad1 := rfl
@[simp] theorem State.setX_pad2 (s : State) (v : Byte) : (s.setX v).pad2 = s.pad2 := rfl
@[simp] theorem State.setX_frameParity (s : State) (v : Byte) : (s.setX v).frameParity = s.frameParity := rfl
@[simp] theorem State.setX_irqLine (s : State) (v : Byte) : (s.setX v).irqLine = s.irqLine := rfl
@[simp] theorem State.setX_ctrlHighBits (s : State) (v : Byte) : (s.setX v).ctrlHighBits = s.ctrlHighBits := rfl

@[simp] theorem State.setY_a (s : State) (v : Byte) : (s.setY v).a = s.a := rfl
@[simp] theorem State.setY_x (s : State) (v : Byte) : (s.setY v).x = s.x := rfl
@[simp] theorem State.setY_y (s : State) (v : Byte) : (s.setY v).y = v := rfl
@[simp] theorem State.setY_sp (s : State) (v : Byte) : (s.setY v).sp = s.sp := rfl
@[simp] theorem State.setY_p (s : State) (v : Byte) : (s.setY v).p = s.p := rfl
@[simp] theorem State.setY_pc (s : State) (v : Byte) : (s.setY v).pc = s.pc := rfl
@[simp] theorem State.setY_cycles (s : State) (v : Byte) : (s.setY v).cycles = s.cycles := rfl
@[simp] theorem State.setY_ram (s : State) (v : Byte) : (s.setY v).ram = s.ram := rfl
@[simp] theorem State.setY_prgRam (s : State) (v : Byte) : (s.setY v).prgRam = s.prgRam := rfl
@[simp] theorem State.setY_chr (s : State) (v : Byte) : (s.setY v).chr = s.chr := rfl
@[simp] theorem State.setY_cart (s : State) (v : Byte) : (s.setY v).cart = s.cart := rfl
@[simp] theorem State.setY_ppu (s : State) (v : Byte) : (s.setY v).ppu = s.ppu := rfl
@[simp] theorem State.setY_pad1 (s : State) (v : Byte) : (s.setY v).pad1 = s.pad1 := rfl
@[simp] theorem State.setY_pad2 (s : State) (v : Byte) : (s.setY v).pad2 = s.pad2 := rfl
@[simp] theorem State.setY_frameParity (s : State) (v : Byte) : (s.setY v).frameParity = s.frameParity := rfl
@[simp] theorem State.setY_irqLine (s : State) (v : Byte) : (s.setY v).irqLine = s.irqLine := rfl
@[simp] theorem State.setY_ctrlHighBits (s : State) (v : Byte) : (s.setY v).ctrlHighBits = s.ctrlHighBits := rfl

@[simp] theorem State.setSp_a (s : State) (v : Byte) : (s.setSp v).a = s.a := rfl
@[simp] theorem State.setSp_x (s : State) (v : Byte) : (s.setSp v).x = s.x := rfl
@[simp] theorem State.setSp_y (s : State) (v : Byte) : (s.setSp v).y = s.y := rfl
@[simp] theorem State.setSp_sp (s : State) (v : Byte) : (s.setSp v).sp = v := rfl
@[simp] theorem State.setSp_p (s : State) (v : Byte) : (s.setSp v).p = s.p := rfl
@[simp] theorem State.setSp_pc (s : State) (v : Byte) : (s.setSp v).pc = s.pc := rfl
@[simp] theorem State.setSp_cycles (s : State) (v : Byte) : (s.setSp v).cycles = s.cycles := rfl
@[simp] theorem State.setSp_ram (s : State) (v : Byte) : (s.setSp v).ram = s.ram := rfl
@[simp] theorem State.setSp_prgRam (s : State) (v : Byte) : (s.setSp v).prgRam = s.prgRam := rfl
@[simp] theorem State.setSp_chr (s : State) (v : Byte) : (s.setSp v).chr = s.chr := rfl
@[simp] theorem State.setSp_cart (s : State) (v : Byte) : (s.setSp v).cart = s.cart := rfl
@[simp] theorem State.setSp_ppu (s : State) (v : Byte) : (s.setSp v).ppu = s.ppu := rfl
@[simp] theorem State.setSp_pad1 (s : State) (v : Byte) : (s.setSp v).pad1 = s.pad1 := rfl
@[simp] theorem State.setSp_pad2 (s : State) (v : Byte) : (s.setSp v).pad2 = s.pad2 := rfl
@[simp] theorem State.setSp_frameParity (s : State) (v : Byte) : (s.setSp v).frameParity = s.frameParity := rfl
@[simp] theorem State.setSp_irqLine (s : State) (v : Byte) : (s.setSp v).irqLine = s.irqLine := rfl
@[simp] theorem State.setSp_ctrlHighBits (s : State) (v : Byte) : (s.setSp v).ctrlHighBits = s.ctrlHighBits := rfl

@[simp] theorem State.setP_a (s : State) (v : Byte) : (s.setP v).a = s.a := rfl
@[simp] theorem State.setP_x (s : State) (v : Byte) : (s.setP v).x = s.x := rfl
@[simp] theorem State.setP_y (s : State) (v : Byte) : (s.setP v).y = s.y := rfl
@[simp] theorem State.setP_sp (s : State) (v : Byte) : (s.setP v).sp = s.sp := rfl
@[simp] theorem State.setP_p (s : State) (v : Byte) : (s.setP v).p = v := rfl
@[simp] theorem State.setP_pc (s : State) (v : Byte) : (s.setP v).pc = s.pc := rfl
@[simp] theorem State.setP_cycles (s : State) (v : Byte) : (s.setP v).cycles = s.cycles := rfl
@[simp] theorem State.setP_ram (s : State) (v : Byte) : (s.setP v).ram = s.ram := rfl
@[simp] theorem State.setP_prgRam (s : State) (v : Byte) : (s.setP v).prgRam = s.prgRam := rfl
@[simp] theorem State.setP_chr (s : State) (v : Byte) : (s.setP v).chr = s.chr := rfl
@[simp] theorem State.setP_cart (s : State) (v : Byte) : (s.setP v).cart = s.cart := rfl
@[simp] theorem State.setP_ppu (s : State) (v : Byte) : (s.setP v).ppu = s.ppu := rfl
@[simp] theorem State.setP_pad1 (s : State) (v : Byte) : (s.setP v).pad1 = s.pad1 := rfl
@[simp] theorem State.setP_pad2 (s : State) (v : Byte) : (s.setP v).pad2 = s.pad2 := rfl
@[simp] theorem State.setP_frameParity (s : State) (v : Byte) : (s.setP v).frameParity = s.frameParity := rfl
@[simp] theorem State.setP_irqLine (s : State) (v : Byte) : (s.setP v).irqLine = s.irqLine := rfl
@[simp] theorem State.setP_ctrlHighBits (s : State) (v : Byte) : (s.setP v).ctrlHighBits = s.ctrlHighBits := rfl

@[simp] theorem State.setPc_a (s : State) (v : Word) : (s.setPc v).a = s.a := rfl
@[simp] theorem State.setPc_x (s : State) (v : Word) : (s.setPc v).x = s.x := rfl
@[simp] theorem State.setPc_y (s : State) (v : Word) : (s.setPc v).y = s.y := rfl
@[simp] theorem State.setPc_sp (s : State) (v : Word) : (s.setPc v).sp = s.sp := rfl
@[simp] theorem State.setPc_p (s : State) (v : Word) : (s.setPc v).p = s.p := rfl
@[simp] theorem State.setPc_pc (s : State) (v : Word) : (s.setPc v).pc = v := rfl
@[simp] theorem State.setPc_cycles (s : State) (v : Word) : (s.setPc v).cycles = s.cycles := rfl
@[simp] theorem State.setPc_ram (s : State) (v : Word) : (s.setPc v).ram = s.ram := rfl
@[simp] theorem State.setPc_prgRam (s : State) (v : Word) : (s.setPc v).prgRam = s.prgRam := rfl
@[simp] theorem State.setPc_chr (s : State) (v : Word) : (s.setPc v).chr = s.chr := rfl
@[simp] theorem State.setPc_cart (s : State) (v : Word) : (s.setPc v).cart = s.cart := rfl
@[simp] theorem State.setPc_ppu (s : State) (v : Word) : (s.setPc v).ppu = s.ppu := rfl
@[simp] theorem State.setPc_pad1 (s : State) (v : Word) : (s.setPc v).pad1 = s.pad1 := rfl
@[simp] theorem State.setPc_pad2 (s : State) (v : Word) : (s.setPc v).pad2 = s.pad2 := rfl
@[simp] theorem State.setPc_frameParity (s : State) (v : Word) : (s.setPc v).frameParity = s.frameParity := rfl
@[simp] theorem State.setPc_irqLine (s : State) (v : Word) : (s.setPc v).irqLine = s.irqLine := rfl
@[simp] theorem State.setPc_ctrlHighBits (s : State) (v : Word) : (s.setPc v).ctrlHighBits = s.ctrlHighBits := rfl

@[simp] theorem State.setCycles_a (s : State) (v : Nat) : (s.setCycles v).a = s.a := rfl
@[simp] theorem State.setCycles_x (s : State) (v : Nat) : (s.setCycles v).x = s.x := rfl
@[simp] theorem State.setCycles_y (s : State) (v : Nat) : (s.setCycles v).y = s.y := rfl
@[simp] theorem State.setCycles_sp (s : State) (v : Nat) : (s.setCycles v).sp = s.sp := rfl
@[simp] theorem State.setCycles_p (s : State) (v : Nat) : (s.setCycles v).p = s.p := rfl
@[simp] theorem State.setCycles_pc (s : State) (v : Nat) : (s.setCycles v).pc = s.pc := rfl
@[simp] theorem State.setCycles_cycles (s : State) (v : Nat) : (s.setCycles v).cycles = v := rfl
@[simp] theorem State.setCycles_ram (s : State) (v : Nat) : (s.setCycles v).ram = s.ram := rfl
@[simp] theorem State.setCycles_prgRam (s : State) (v : Nat) : (s.setCycles v).prgRam = s.prgRam := rfl
@[simp] theorem State.setCycles_chr (s : State) (v : Nat) : (s.setCycles v).chr = s.chr := rfl
@[simp] theorem State.setCycles_cart (s : State) (v : Nat) : (s.setCycles v).cart = s.cart := rfl
@[simp] theorem State.setCycles_ppu (s : State) (v : Nat) : (s.setCycles v).ppu = s.ppu := rfl
@[simp] theorem State.setCycles_pad1 (s : State) (v : Nat) : (s.setCycles v).pad1 = s.pad1 := rfl
@[simp] theorem State.setCycles_pad2 (s : State) (v : Nat) : (s.setCycles v).pad2 = s.pad2 := rfl
@[simp] theorem State.setCycles_frameParity (s : State) (v : Nat) : (s.setCycles v).frameParity = s.frameParity := rfl
@[simp] theorem State.setCycles_irqLine (s : State) (v : Nat) : (s.setCycles v).irqLine = s.irqLine := rfl
@[simp] theorem State.setCycles_ctrlHighBits (s : State) (v : Nat) : (s.setCycles v).ctrlHighBits = s.ctrlHighBits := rfl

@[simp] theorem State.setRam_a (s : State) (v : Memory) : (s.setRam v).a = s.a := rfl
@[simp] theorem State.setRam_x (s : State) (v : Memory) : (s.setRam v).x = s.x := rfl
@[simp] theorem State.setRam_y (s : State) (v : Memory) : (s.setRam v).y = s.y := rfl
@[simp] theorem State.setRam_sp (s : State) (v : Memory) : (s.setRam v).sp = s.sp := rfl
@[simp] theorem State.setRam_p (s : State) (v : Memory) : (s.setRam v).p = s.p := rfl
@[simp] theorem State.setRam_pc (s : State) (v : Memory) : (s.setRam v).pc = s.pc := rfl
@[simp] theorem State.setRam_cycles (s : State) (v : Memory) : (s.setRam v).cycles = s.cycles := rfl
@[simp] theorem State.setRam_ram (s : State) (v : Memory) : (s.setRam v).ram = v := rfl
@[simp] theorem State.setRam_prgRam (s : State) (v : Memory) : (s.setRam v).prgRam = s.prgRam := rfl
@[simp] theorem State.setRam_chr (s : State) (v : Memory) : (s.setRam v).chr = s.chr := rfl
@[simp] theorem State.setRam_cart (s : State) (v : Memory) : (s.setRam v).cart = s.cart := rfl
@[simp] theorem State.setRam_ppu (s : State) (v : Memory) : (s.setRam v).ppu = s.ppu := rfl
@[simp] theorem State.setRam_pad1 (s : State) (v : Memory) : (s.setRam v).pad1 = s.pad1 := rfl
@[simp] theorem State.setRam_pad2 (s : State) (v : Memory) : (s.setRam v).pad2 = s.pad2 := rfl
@[simp] theorem State.setRam_frameParity (s : State) (v : Memory) : (s.setRam v).frameParity = s.frameParity := rfl
@[simp] theorem State.setRam_irqLine (s : State) (v : Memory) : (s.setRam v).irqLine = s.irqLine := rfl
@[simp] theorem State.setRam_ctrlHighBits (s : State) (v : Memory) : (s.setRam v).ctrlHighBits = s.ctrlHighBits := rfl

@[simp] theorem State.setPrgRam_a (s : State) (v : Memory) : (s.setPrgRam v).a = s.a := rfl
@[simp] theorem State.setPrgRam_x (s : State) (v : Memory) : (s.setPrgRam v).x = s.x := rfl
@[simp] theorem State.setPrgRam_y (s : State) (v : Memory) : (s.setPrgRam v).y = s.y := rfl
@[simp] theorem State.setPrgRam_sp (s : State) (v : Memory) : (s.setPrgRam v).sp = s.sp := rfl
@[simp] theorem State.setPrgRam_p (s : State) (v : Memory) : (s.setPrgRam v).p = s.p := rfl
@[simp] theorem State.setPrgRam_pc (s : State) (v : Memory) : (s.setPrgRam v).pc = s.pc := rfl
@[simp] theorem State.setPrgRam_cycles (s : State) (v : Memory) : (s.setPrgRam v).cycles = s.cycles := rfl
@[simp] theorem State.setPrgRam_ram (s : State) (v : Memory) : (s.setPrgRam v).ram = s.ram := rfl
@[simp] theorem State.setPrgRam_prgRam (s : State) (v : Memory) : (s.setPrgRam v).prgRam = v := rfl
@[simp] theorem State.setPrgRam_chr (s : State) (v : Memory) : (s.setPrgRam v).chr = s.chr := rfl
@[simp] theorem State.setPrgRam_cart (s : State) (v : Memory) : (s.setPrgRam v).cart = s.cart := rfl
@[simp] theorem State.setPrgRam_ppu (s : State) (v : Memory) : (s.setPrgRam v).ppu = s.ppu := rfl
@[simp] theorem State.setPrgRam_pad1 (s : State) (v : Memory) : (s.setPrgRam v).pad1 = s.pad1 := rfl
@[simp] theorem State.setPrgRam_pad2 (s : State) (v : Memory) : (s.setPrgRam v).pad2 = s.pad2 := rfl
@[simp] theorem State.setPrgRam_frameParity (s : State) (v : Memory) : (s.setPrgRam v).frameParity = s.frameParity := rfl
@[simp] theorem State.setPrgRam_irqLine (s : State) (v : Memory) : (s.setPrgRam v).irqLine = s.irqLine := rfl
@[simp] theorem State.setPrgRam_ctrlHighBits (s : State) (v : Memory) : (s.setPrgRam v).ctrlHighBits = s.ctrlHighBits := rfl

@[simp] theorem State.setChr_a (s : State) (v : Memory) : (s.setChr v).a = s.a := rfl
@[simp] theorem State.setChr_x (s : State) (v : Memory) : (s.setChr v).x = s.x := rfl
@[simp] theorem State.setChr_y (s : State) (v : Memory) : (s.setChr v).y = s.y := rfl
@[simp] theorem State.setChr_sp (s : State) (v : Memory) : (s.setChr v).sp = s.sp := rfl
@[simp] theorem State.setChr_p (s : State) (v : Memory) : (s.setChr v).p = s.p := rfl
@[simp] theorem State.setChr_pc (s : State) (v : Memory) : (s.setChr v).pc = s.pc := rfl
@[simp] theorem State.setChr_cycles (s : State) (v : Memory) : (s.setChr v).cycles = s.cycles := rfl
@[simp] theorem State.setChr_ram (s : State) (v : Memory) : (s.setChr v).ram = s.ram := rfl
@[simp] theorem State.setChr_prgRam (s : State) (v : Memory) : (s.setChr v).prgRam = s.prgRam := rfl
@[simp] theorem State.setChr_chr (s : State) (v : Memory) : (s.setChr v).chr = v := rfl
@[simp] theorem State.setChr_cart (s : State) (v : Memory) : (s.setChr v).cart = s.cart := rfl
@[simp] theorem State.setChr_ppu (s : State) (v : Memory) : (s.setChr v).ppu = s.ppu := rfl
@[simp] theorem State.setChr_pad1 (s : State) (v : Memory) : (s.setChr v).pad1 = s.pad1 := rfl
@[simp] theorem State.setChr_pad2 (s : State) (v : Memory) : (s.setChr v).pad2 = s.pad2 := rfl
@[simp] theorem State.setChr_frameParity (s : State) (v : Memory) : (s.setChr v).frameParity = s.frameParity := rfl
@[simp] theorem State.setChr_irqLine (s : State) (v : Memory) : (s.setChr v).irqLine = s.irqLine := rfl
@[simp] theorem State.setChr_ctrlHighBits (s : State) (v : Memory) : (s.setChr v).ctrlHighBits = s.ctrlHighBits := rfl

@[simp] theorem State.setCart_a (s : State) (v : Cartridge) : (s.setCart v).a = s.a := rfl
@[simp] theorem State.setCart_x (s : State) (v : Cartridge) : (s.setCart v).x = s.x := rfl
@[simp] theorem State.setCart_y (s : State) (v : Cartridge) : (s.setCart v).y = s.y := rfl
@[simp] theorem State.setCart_sp (s : State) (v : Cartridge) : (s.setCart v).sp = s.sp := rfl
@[simp] theorem State.setCart_p (s : State) (v : Cartridge) : (s.setCart v).p = s.p := rfl
@[simp] theorem State.setCart_pc (s : State) (v : Cartridge) : (s.setCart v).pc = s.pc := rfl
@[simp] theorem State.setCart_cycles (s : State) (v : Cartridge) : (s.setCart v).cycles = s.cycles := rfl
@[simp] theorem State.setCart_ram (s : State) (v : Cartridge) : (s.setCart v).ram = s.ram := rfl
@[simp] theorem State.setCart_prgRam (s : State) (v : Cartridge) : (s.setCart v).prgRam = s.prgRam := rfl
@[simp] theorem State.setCart_chr (s : State) (v : Cartridge) : (s.setCart v).chr = s.chr := rfl
@[simp] theorem State.setCart_cart (s : State) (v : Cartridge) : (s.setCart v).cart = v := rfl
@[simp] theorem State.setCart_ppu (s : State) (v : Cartridge) : (s.setCart v).ppu = s.ppu := rfl
@[simp] theorem State.setCart_pad1 (s : State) (v : Cartridge) : (s.setCart v).pad1 = s.pad1 := rfl
@[simp] theorem State.setCart_pad2 (s : State) (v : Cartridge) : (s.setCart v).pad2 = s.pad2 := rfl
@[simp] theorem State.setCart_frameParity (s : State) (v : Cartridge) : (s.setCart v).frameParity = s.frameParity := rfl
@[simp] theorem State.setCart_irqLine (s : State) (v : Cartridge) : (s.setCart v).irqLine = s.irqLine := rfl
@[simp] theorem State.setCart_ctrlHighBits (s : State) (v : Cartridge) : (s.setCart v).ctrlHighBits = s.ctrlHighBits := rfl

@[simp] theorem State.setPpu_a (s : State) (v : Ppu) : (s.setPpu v).a = s.a := rfl
@[simp] theorem State.setPpu_x (s : State) (v : Ppu) : (s.setPpu v).x = s.x := rfl
@[simp] theorem State.setPpu_y (s : State) (v : Ppu) : (s.setPpu v).y = s.y := rfl
@[simp] theorem State.setPpu_sp (s : State) (v : Ppu) : (s.setPpu v).sp = s.sp := rfl
@[simp] theorem State.setPpu_p (s : State) (v : Ppu) : (s.setPpu v).p = s.p := rfl
@[simp] theorem State.setPpu_pc (s : State) (v : Ppu) : (s.setPpu v).pc = s.pc := rfl
@[simp] theorem State.setPpu_cycles (s : State) (v : Ppu) : (s.setPpu v).cycles = s.cycles := rfl
@[simp] theorem State.setPpu_ram (s : State) (v : Ppu) : (s.setPpu v).ram = s.ram := rfl
@[simp] theorem State.setPpu_prgRam (s : State) (v : Ppu) : (s.setPpu v).prgRam = s.prgRam := rfl
@[simp] theorem State.setPpu_chr (s : State) (v : Ppu) : (s.setPpu v).chr = s.chr := rfl
@[simp] theorem State.setPpu_cart (s : State) (v : Ppu) : (s.setPpu v).cart = s.cart := rfl
@[simp] theorem State.setPpu_ppu (s : State) (v : Ppu) : (s.setPpu v).ppu = v := rfl
@[simp] theorem State.setPpu_pad1 (s : State) (v : Ppu) : (s.setPpu v).pad1 = s.pad1 := rfl
@[simp] theorem State.setPpu_pad2 (s : State) (v : Ppu) : (s.setPpu v).pad2 = s.pad2 := rfl
@[simp] theorem State.setPpu_frameParity (s : State) (v : Ppu) : (s.setPpu v).frameParity = s.frameParity := rfl
@[simp] theorem State.setPpu_irqLine (s : State) (v : Ppu) : (s.setPpu v).irqLine = s.irqLine := rfl
@[simp] theorem State.setPpu_ctrlHighBits (s : State) (v : Ppu) : (s.setPpu v).ctrlHighBits = s.ctrlHighBits := rfl

@[simp] theorem State.setPad1_a (s : State) (v : Controller) : (s.setPad1 v).a = s.a := rfl
@[simp] theorem State.setPad1_x (s : State) (v : Controller) : (s.setPad1 v).x = s.x := rfl
@[simp] theorem State.setPad1_y (s : State) (v : Controller) : (s.setPad1 v).y = s.y := rfl
@[simp] theorem State.setPad1_sp (s : State) (v : Controller) : (s.setPad1 v).sp = s.sp := rfl
@[simp] theorem State.setPad1_p (s : State) (v : Controller) : (s.setPad1 v).p = s.p := rfl
@[simp] theorem State.setPad1_pc (s : State) (v : Controller) : (s.setPad1 v).pc = s.pc := rfl
@[simp] theorem State.setPad1_cycles (s : State) (v : Controller) : (s.setPad1 v).cycles = s.cycles := rfl
@[simp] theorem State.setPad1_ram (s : State) (v : Controller) : (s.setPad1 v).ram = s.ram := rfl
@[simp] theorem State.setPad1_prgRam (s : State) (v : Controller) : (s.setPad1 v).prgRam = s.prgRam := rfl
@[simp] theorem State.setPad1_chr (s : State) (v : Controller) : (s.setPad1 v).chr = s.chr := rfl
@[simp] theorem State.setPad1_cart (s : State) (v : Controller) : (s.setPad1 v).cart = s.cart := rfl
@[simp] theorem State.setPad1_ppu (s : State) (v : Controller) : (s.setPad1 v).ppu = s.ppu := rfl
@[simp] theorem State.setPad1_pad1 (s : State) (v : Controller) : (s.setPad1 v).pad1 = v := rfl
@[simp] theorem State.setPad1_pad2 (s : State) (v : Controller) : (s.setPad1 v).pad2 = s.pad2 := rfl
@[simp] theorem State.setPad1_frameParity (s : State) (v : Controller) : (s.setPad1 v).frameParity = s.frameParity := rfl
@[simp] theorem State.setPad1_irqLine (s : State) (v : Controller) : (s.setPad1 v).irqLine = s.irqLine := rfl
@[simp] theorem State.setPad1_ctrlHighBits (s : State) (v : Controller) : (s.setPad1 v).ctrlHighBits = s.ctrlHighBits := rfl

@[simp] theorem State.setPad2_a (s : State) (v : Controller) : (s.setPad2 v).a = s.a := rfl
@[simp] theorem State.setPad2_x (s : State) (v : Controller) : (s.setPad2 v).x = s.x := rfl
@[simp] theorem State.setPad2_y (s : State) (v : Controller) : (s.setPad2 v).y = s.y := rfl
@[simp] theorem State.setPad2_sp (s : State) (v : Controller) : (s.setPad2 v).sp = s.sp := rfl
@[simp] theorem State.setPad2_p (s : State) (v : Controller) : (s.setPad2 v).p = s.p := rfl
@[simp] theorem State.setPad2_pc (s : State) (v : Controller) : (s.setPad2 v).pc = s.pc := rfl
@[simp] theorem State.setPad2_cycles (s : State) (v : Controller) : (s.setPad2 v).cycles = s.cycles := rfl
@[simp] theorem State.setPad2_ram (s : State) (v : Controller) : (s.setPad2 v).ram = s.ram := rfl
@[simp] theorem State.setPad2_prgRam (s : State) (v : Controller) : (s.setPad2 v).prgRam = s.prgRam := rfl
@[simp] theorem State.setPad2_chr (s : State) (v : Controller) : (s.setPad2 v).chr = s.chr := rfl
@[simp] theorem State.setPad2_cart (s : State) (v : Controller) : (s.setPad2 v).cart = s.cart := rfl
@[simp] theorem State.setPad2_ppu (s : State) (v : Controller) : (s.setPad2 v).ppu = s.ppu := rfl
@[simp] theorem State.setPad2_pad1 (s : State) (v : Controller) : (s.setPad2 v).pad1 = s.pad1 := rfl
@[simp] theorem State.setPad2_pad2 (s : State) (v : Controller) : (s.setPad2 v).pad2 = v := rfl
@[simp] theorem State.setPad2_frameParity (s : State) (v : Controller) : (s.setPad2 v).frameParity = s.frameParity := rfl
@[simp] theorem State.setPad2_irqLine (s : State) (v : Controller) : (s.setPad2 v).irqLine = s.irqLine := rfl
@[simp] theorem State.setPad2_ctrlHighBits (s : State) (v : Controller) : (s.setPad2 v).ctrlHighBits = s.ctrlHighBits := rfl

@[simp] theorem State.setFrameParity_a (s : State) (v : Bool) : (s.setFrameParity v).a = s.a := rfl
@[simp] theorem State.setFrameParity_x (s : State) (v : Bool) : (s.setFrameParity v).x = s.x := rfl
@[simp] theorem State.setFrameParity_y (s : State) (v : Bool) : (s.setFrameParity v).y = s.y := rfl
@[simp] theorem State.setFrameParity_sp (s : State) (v : Bool) : (s.setFrameParity v).sp = s.sp := rfl
@[simp] theorem State.setFrameParity_p (s : State) (v : Bool) : (s.setFrameParity v).p = s.p := rfl
@[simp] theorem State.setFrameParity_pc (s : State) (v : Bool) : (s.setFrameParity v).pc = s.pc := rfl
@[simp] theorem State.setFrameParity_cycles (s : State) (v : Bool) : (s.setFrameParity v).cycles = s.cycles := rfl
@[simp] theorem State.setFrameParity_ram (s : State) (v : Bool) : (s.setFrameParity v).ram = s.ram := rfl
@[simp] theorem State.setFrameParity_prgRam (s : State) (v : Bool) : (s.setFrameParity v).prgRam = s.prgRam := rfl
@[simp] theorem State.setFrameParity_chr (s : State) (v : Bool) : (s.setFrameParity v).chr = s.chr := rfl
@[simp] theorem State.setFrameParity_cart (s : State) (v : Bool) : (s.setFrameParity v).cart = s.cart := rfl
@[simp] theorem State.setFrameParity_ppu (s : State) (v : Bool) : (s.setFrameParity v).ppu = s.ppu := rfl
@[simp] theorem State.setFrameParity_pad1 (s : State) (v : Bool) : (s.setFrameParity v).pad1 = s.pad1 := rfl
@[simp] theorem State.setFrameParity_pad2 (s : State) (v : Bool) : (s.setFrameParity v).pad2 = s.pad2 := rfl
@[simp] theorem State.setFrameParity_frameParity (s : State) (v : Bool) : (s.setFrameParity v).frameParity = v := rfl
@[simp] theorem State.setFrameParity_irqLine (s : State) (v : Bool) : (s.setFrameParity v).irqLine = s.irqLine := rfl
@[simp] theorem State.setFrameParity_ctrlHighBits (s : State) (v : Bool) : (s.setFrameParity v).ctrlHighBits = s.ctrlHighBits := rfl

@[simp] theorem State.setIrqLine_a (s : State) (v : Bool) : (s.setIrqLine v).a = s.a := rfl
@[simp] theorem State.setIrqLine_x (s : State) (v : Bool) : (s.setIrqLine v).x = s.x := rfl
@[simp] theorem State.setIrqLine_y (s : State) (v : Bool) : (s.setIrqLine v).y = s.y := rfl
@[simp] theorem State.setIrqLine_sp (s : State) (v : Bool) : (s.setIrqLine v).sp = s.sp := rfl
@[simp] theorem State.setIrqLine_p (s : State) (v : Bool) : (s.setIrqLine v).p = s.p := rfl
@[simp] theorem State.setIrqLine_pc (s : State) (v : Bool) : (s.setIrqLine v).pc = s.pc := rfl
@[simp] theorem State.setIrqLine_cycles (s : State) (v : Bool) : (s.setIrqLine v).cycles = s.cycles := rfl
@[simp] theorem State.setIrqLine_ram (s : State) (v : Bool) : (s.setIrqLine v).ram = s.ram := rfl
@[simp] theorem State.setIrqLine_prgRam (s : State) (v : Bool) : (s.setIrqLine v).prgRam = s.prgRam := rfl
@[simp] theorem State.setIrqLine_chr (s : State) (v : Bool) : (s.setIrqLine v).chr = s.chr := rfl
@[simp] theorem State.setIrqLine_cart (s : State) (v : Bool) : (s.setIrqLine v).cart = s.cart := rfl
@[simp] theorem State.setIrqLine_ppu (s : State) (v : Bool) : (s.setIrqLine v).ppu = s.ppu := rfl
@[simp] theorem State.setIrqLine_pad1 (s : State) (v : Bool) : (s.setIrqLine v).pad1 = s.pad1 := rfl
@[simp] theorem State.setIrqLine_pad2 (s : State) (v : Bool) : (s.setIrqLine v).pad2 = s.pad2 := rfl
@[simp] theorem State.setIrqLine_frameParity (s : State) (v : Bool) : (s.setIrqLine v).frameParity = s.frameParity := rfl
@[simp] theorem State.setIrqLine_irqLine (s : State) (v : Bool) : (s.setIrqLine v).irqLine = v := rfl
@[simp] theorem State.setIrqLine_ctrlHighBits (s : State) (v : Bool) : (s.setIrqLine v).ctrlHighBits = s.ctrlHighBits := rfl

@[simp] theorem State.setCtrlHighBits_a (s : State) (v : BitVec 7) : (s.setCtrlHighBits v).a = s.a := rfl
@[simp] theorem State.setCtrlHighBits_x (s : State) (v : BitVec 7) : (s.setCtrlHighBits v).x = s.x := rfl
@[simp] theorem State.setCtrlHighBits_y (s : State) (v : BitVec 7) : (s.setCtrlHighBits v).y = s.y := rfl
@[simp] theorem State.setCtrlHighBits_sp (s : State) (v : BitVec 7) : (s.setCtrlHighBits v).sp = s.sp := rfl
@[simp] theorem State.setCtrlHighBits_p (s : State) (v : BitVec 7) : (s.setCtrlHighBits v).p = s.p := rfl
@[simp] theorem State.setCtrlHighBits_pc (s : State) (v : BitVec 7) : (s.setCtrlHighBits v).pc = s.pc := rfl
@[simp] theorem State.setCtrlHighBits_cycles (s : State) (v : BitVec 7) : (s.setCtrlHighBits v).cycles = s.cycles := rfl
@[simp] theorem State.setCtrlHighBits_ram (s : State) (v : BitVec 7) : (s.setCtrlHighBits v).ram = s.ram := rfl
@[simp] theorem State.setCtrlHighBits_prgRam (s : State) (v : BitVec 7) : (s.setCtrlHighBits v).prgRam = s.prgRam := rfl
@[simp] theorem State.setCtrlHighBits_chr (s : State) (v : BitVec 7) : (s.setCtrlHighBits v).chr = s.chr := rfl
@[simp] theorem State.setCtrlHighBits_cart (s : State) (v : BitVec 7) : (s.setCtrlHighBits v).cart = s.cart := rfl
@[simp] theorem State.setCtrlHighBits_ppu (s : State) (v : BitVec 7) : (s.setCtrlHighBits v).ppu = s.ppu := rfl
@[simp] theorem State.setCtrlHighBits_pad1 (s : State) (v : BitVec 7) : (s.setCtrlHighBits v).pad1 = s.pad1 := rfl
@[simp] theorem State.setCtrlHighBits_pad2 (s : State) (v : BitVec 7) : (s.setCtrlHighBits v).pad2 = s.pad2 := rfl
@[simp] theorem State.setCtrlHighBits_frameParity (s : State) (v : BitVec 7) : (s.setCtrlHighBits v).frameParity = s.frameParity := rfl
@[simp] theorem State.setCtrlHighBits_irqLine (s : State) (v : BitVec 7) : (s.setCtrlHighBits v).irqLine = s.irqLine := rfl
@[simp] theorem State.setCtrlHighBits_ctrlHighBits (s : State) (v : BitVec 7) : (s.setCtrlHighBits v).ctrlHighBits = v := rfl

@[simp] theorem State.addCycles_a (s : State) (n : Nat) : (s.addCycles n).a = s.a := rfl
@[simp] theorem State.addCycles_x (s : State) (n : Nat) : (s.addCycles n).x = s.x := rfl
@[simp] theorem State.addCycles_y (s : State) (n : Nat) : (s.addCycles n).y = s.y := rfl
@[simp] theorem State.addCycles_sp (s : State) (n : Nat) : (s.addCycles n).sp = s.sp := rfl
@[simp] theorem State.addCycles_p (s : State) (n : Nat) : (s.addCycles n).p = s.p := rfl
@[simp] theorem State.addCycles_pc (s : State) (n : Nat) : (s.addCycles n).pc = s.pc := rfl
@[simp] theorem State.addCycles_cycles (s : State) (n : Nat) : (s.addCycles n).cycles = s.cycles + n := rfl
@[simp] theorem State.addCycles_ram (s : State) (n : Nat) : (s.addCycles n).ram = s.ram := rfl
@[simp] theorem State.addCycles_prgRam (s : State) (n : Nat) : (s.addCycles n).prgRam = s.prgRam := rfl
@[simp] theorem State.addCycles_chr (s : State) (n : Nat) : (s.addCycles n).chr = s.chr := rfl
@[simp] theorem State.addCycles_cart (s : State) (n : Nat) : (s.addCycles n).cart = s.cart := rfl
@[simp] theorem State.addCycles_ppu (s : State) (n : Nat) : (s.addCycles n).ppu = s.ppu := rfl
@[simp] theorem State.addCycles_pad1 (s : State) (n : Nat) : (s.addCycles n).pad1 = s.pad1 := rfl
@[simp] theorem State.addCycles_pad2 (s : State) (n : Nat) : (s.addCycles n).pad2 = s.pad2 := rfl
@[simp] theorem State.addCycles_frameParity (s : State) (n : Nat) : (s.addCycles n).frameParity = s.frameParity := rfl
@[simp] theorem State.addCycles_irqLine (s : State) (n : Nat) : (s.addCycles n).irqLine = s.irqLine := rfl
@[simp] theorem State.addCycles_ctrlHighBits (s : State) (n : Nat) : (s.addCycles n).ctrlHighBits = s.ctrlHighBits := rfl

end Sys2Proof.Machine
end

