-- ==== Sys2Proof/Laws/Bus.lean ====
section
/-! SUPPORT. What one bus read and one bus write can change, said once for each operation. -/

namespace Sys2Proof.Machine

/-! ## Reads -/

/-- `t` is `s` after bus reads: only the PPU's `status`, `writeToggle`, `readBuffer` and `v` and the
controllers' indices may differ. -/
def ReadsOnly (s t : State) : Prop :=
  ∃ (st : Byte) (wt : Bool) (rb : Byte) (v : VramReg) (i1 i2 : Nat),
    t = { s with
      ppu := { s.ppu with status := st, writeToggle := wt, readBuffer := rb, v := v }
      pad1 := { s.pad1 with shiftIndex := i1 }
      pad2 := { s.pad2 with shiftIndex := i2 } }

theorem ReadsOnly.refl (s : State) : ReadsOnly s s :=
  ⟨s.ppu.status, s.ppu.writeToggle, s.ppu.readBuffer, s.ppu.v, s.pad1.shiftIndex, s.pad2.shiftIndex, rfl⟩

theorem ReadsOnly.trans {s t u : State} (h : ReadsOnly s t) (h' : ReadsOnly t u) : ReadsOnly s u := by
  obtain ⟨_, _, _, _, _, _, rfl⟩ := h
  obtain ⟨st, wt, rb, v, i1, i2, rfl⟩ := h'
  exact ⟨st, wt, rb, v, i1, i2, rfl⟩

/-- The fields bus reads cannot change. -/
theorem ReadsOnly.same {s t : State} (h : ReadsOnly s t) :
    t.a = s.a ∧ t.x = s.x ∧ t.y = s.y ∧ t.sp = s.sp ∧ t.p = s.p ∧ t.pc = s.pc ∧ t.cycles = s.cycles ∧
    t.ram = s.ram ∧ t.prgRam = s.prgRam ∧ t.chr = s.chr ∧ t.cart = s.cart ∧
    t.frameParity = s.frameParity ∧ t.irqLine = s.irqLine ∧ t.ctrlHighBits = s.ctrlHighBits := by
  obtain ⟨_, _, _, _, _, _, rfl⟩ := h
  exact ⟨rfl, rfl, rfl, rfl, rfl, rfl, rfl, rfl, rfl, rfl, rfl, rfl, rfl, rfl⟩

theorem ppuRegRead_readsOnly (n : Nat) (s : State) : ReadsOnly s (ppuRegRead n s).2 := by
  unfold ppuRegRead
  split
  · exact ⟨_, _, _, _, _, _, rfl⟩
  · exact ReadsOnly.refl s
  · exact ⟨_, _, _, _, _, _, rfl⟩
  · exact ReadsOnly.refl s

theorem readPad1_readsOnly (s : State) : ReadsOnly s (readPad1 s).2 := by
  have h : s.pad1.afterRead = { s.pad1 with shiftIndex := s.pad1.afterRead.shiftIndex } := by
    unfold Controller.afterRead
    split
    · rfl
    · split <;> rfl
  refine ⟨s.ppu.status, s.ppu.writeToggle, s.ppu.readBuffer, s.ppu.v, s.pad1.afterRead.shiftIndex,
    s.pad2.shiftIndex, ?_⟩
  simp only [readPad1, State.setPad1]
  rw [h]

theorem readPad2_readsOnly (s : State) : ReadsOnly s (readPad2 s).2 := by
  have h : s.pad2.afterRead = { s.pad2 with shiftIndex := s.pad2.afterRead.shiftIndex } := by
    unfold Controller.afterRead
    split
    · rfl
    · split <;> rfl
  refine ⟨s.ppu.status, s.ppu.writeToggle, s.ppu.readBuffer, s.ppu.v, s.pad1.shiftIndex,
    s.pad2.afterRead.shiftIndex, ?_⟩
  simp only [readPad2, State.setPad2]
  rw [h]

/-- A bus read changes nothing but what a device read can change (20_memory.md R69). -/
theorem memRead_readsOnly (addr : Word) (s : State) : ReadsOnly s (memRead addr s).2 := by
  simp only [memRead]
  split
  · exact ReadsOnly.refl s
  split
  · exact ppuRegRead_readsOnly _ s
  split
  · exact readPad1_readsOnly s
  split
  · exact readPad2_readsOnly s
  repeat' split
  all_goals exact ReadsOnly.refl s

/-- A read of plain memory or of an unmapped address has no side effect (20_memory.md R69). -/
theorem memRead_quiet {addr : Word} (s : State)
    (h : addr.toNat < 0x2000 ∨ (0x4000 ≤ addr.toNat ∧ addr ≠ 0x4016#16 ∧ addr ≠ 0x4017#16)) :
    (memRead addr s).2 = s := by
  have h16 : addr.toNat = 0x4016 → addr = 0x4016#16 := fun e => BitVec.eq_of_toNat_eq e
  have h17 : addr.toNat = 0x4017 → addr = 0x4017#16 := fun e => BitVec.eq_of_toNat_eq e
  simp only [memRead]
  split
  · rfl
  split
  · omega
  split
  · rename_i e; exact absurd (h16 e) (h.resolve_left (by omega)).2.1
  split
  · rename_i e; exact absurd (h17 e) (h.resolve_left (by omega)).2.2
  repeat' split
  all_goals rfl

/-- A read elsewhere than at the controllers can change the PPU only (20_memory.md R69). -/
theorem memRead_ppuOnly {addr : Word} (s : State) (h16 : addr ≠ 0x4016#16) (h17 : addr ≠ 0x4017#16) :
    (memRead addr s).2 = { s with ppu := (memRead addr s).2.ppu } := by
  by_cases h : 0x2000 ≤ addr.toNat ∧ addr.toNat < 0x4000
  · simp only [memRead]
    rw [if_neg (by omega), if_pos h.2]
    unfold ppuRegRead
    split <;> rfl
  · rw [memRead_quiet s]
    by_cases hr : addr.toNat < 0x2000
    · exact .inl hr
    · exact .inr ⟨by omega, h16, h17⟩

/-- A read of work RAM (20_memory.md R54). -/
theorem memRead_ram {addr : Word} (s : State) (h : addr.toNat < 0x2000) :
    memRead addr s = (s.ram.read (addr.toNat % 0x0800), s) := by
  simp [memRead, h]

/-- A read of the PPU register window (20_memory.md R55). -/
theorem memRead_ppu {addr : Word} (s : State) (h1 : 0x2000 ≤ addr.toNat) (h2 : addr.toNat < 0x4000) :
    memRead addr s = ppuRegRead (addr.toNat % 8) s := by
  simp only [memRead]
  rw [if_neg (by omega), if_pos h2]

/-- A read of cartridge RAM (20_memory.md R59). -/
theorem memRead_prgRam {addr : Word} (s : State) (h1 : 0x6000 ≤ addr.toNat) (h2 : addr.toNat < 0x8000) :
    memRead addr s = (s.prgRam.read (addr.toNat - 0x6000), s) := by
  simp only [memRead]
  rw [if_neg (by omega), if_neg (by omega), if_neg (by omega), if_neg (by omega), if_neg (by omega), if_pos h2]

/-- A read of PRG ROM (20_memory.md R61). -/
theorem memRead_rom {addr : Word} (s : State) (h : 0x8000 ≤ addr.toNat) :
    memRead addr s = (s.cart.cpuRead addr, s) := by
  simp only [memRead]
  rw [if_neg (by omega), if_neg (by omega), if_neg (by omega), if_neg (by omega), if_neg (by omega),
    if_neg (by omega)]

/-- A read of an unmapped address gives 0 (20_memory.md R58). -/
theorem memRead_unmapped {addr : Word} (s : State) (h1 : 0x4000 ≤ addr.toNat) (h2 : addr.toNat < 0x6000)
    (h3 : addr.toNat ≠ 0x4016) (h4 : addr.toNat ≠ 0x4017) : memRead addr s = (0x00#8, s) := by
  simp only [memRead]
  rw [if_neg (by omega), if_neg (by omega), if_neg h3, if_neg h4, if_pos h2]

theorem readPair_readsOnly (l h : Word) (s : State) : ReadsOnly s (readPair l h s).2 :=
  (memRead_readsOnly l s).trans (memRead_readsOnly h _)

/-- A 16-bit read changes no more than two bus reads do. -/
theorem read16_readsOnly (addr : Word) (s : State) : ReadsOnly s (read16 addr s).2 :=
  readPair_readsOnly _ _ s

/-- A 16-bit read at the vectors has no side effect. -/
theorem read16_rom {addr : Word} (s : State) (h : 0x8000 ≤ addr.toNat) (h' : addr.toNat < 0xFFFF) :
    read16 addr s = (wordOf (s.cart.cpuRead addr) (s.cart.cpuRead (addr + 1#16)), s) := by
  have h1 : 0x8000 ≤ (addr + 1#16).toNat := by
    rw [BitVec.toNat_add]; simp; omega
  simp only [read16, readPair, memRead_rom s h, memRead_rom s h1]

/-! ## Writes -/

/-- `t` is `s` after bus writes and reads: the registers, the cycle counter, the cartridge, the inputs
and the host's buttons are the same. -/
def BusOnly (s t : State) : Prop :=
  ∃ (ram prgRam chr : Memory) (ppu : Ppu) (k1 k2 : Bool × Nat),
    t = { s with
      ram := ram, prgRam := prgRam, chr := chr, ppu := ppu
      pad1 := { s.pad1 with strobe := k1.1, shiftIndex := k1.2 }
      pad2 := { s.pad2 with strobe := k2.1, shiftIndex := k2.2 } }

theorem BusOnly.refl (s : State) : BusOnly s s :=
  ⟨s.ram, s.prgRam, s.chr, s.ppu, (s.pad1.strobe, s.pad1.shiftIndex), (s.pad2.strobe, s.pad2.shiftIndex), rfl⟩

theorem BusOnly.trans {s t u : State} (h : BusOnly s t) (h' : BusOnly t u) : BusOnly s u := by
  obtain ⟨_, _, _, _, _, _, rfl⟩ := h
  obtain ⟨ram, prgRam, chr, ppu, k1, k2, rfl⟩ := h'
  exact ⟨ram, prgRam, chr, ppu, k1, k2, rfl⟩

/-- The fields bus accesses cannot change. -/
theorem BusOnly.same {s t : State} (h : BusOnly s t) :
    t.a = s.a ∧ t.x = s.x ∧ t.y = s.y ∧ t.sp = s.sp ∧ t.p = s.p ∧ t.pc = s.pc ∧ t.cycles = s.cycles ∧
    t.cart = s.cart ∧ t.frameParity = s.frameParity ∧ t.irqLine = s.irqLine ∧
    t.ctrlHighBits = s.ctrlHighBits := by
  obtain ⟨_, _, _, _, _, _, rfl⟩ := h
  exact ⟨rfl, rfl, rfl, rfl, rfl, rfl, rfl, rfl, rfl, rfl, rfl⟩

theorem ReadsOnly.busOnly {s t : State} (h : ReadsOnly s t) : BusOnly s t := by
  obtain ⟨st, wt, rb, v, i1, i2, rfl⟩ := h
  exact ⟨s.ram, s.prgRam, s.chr, _, (s.pad1.strobe, i1), (s.pad2.strobe, i2), rfl⟩

theorem BusOnly.setPpu (s : State) (p : Ppu) : BusOnly s (s.setPpu p) :=
  ⟨s.ram, s.prgRam, s.chr, p, (s.pad1.strobe, s.pad1.shiftIndex), (s.pad2.strobe, s.pad2.shiftIndex), rfl⟩

theorem ppuWrite_busOnly (addr : PpuAddr) (v : Byte) (s : State) : BusOnly s (ppuWrite addr v s) := by
  unfold ppuWrite mapperPpuWrite
  split
  · split
    · exact ⟨s.ram, s.prgRam, _, s.ppu, (s.pad1.strobe, s.pad1.shiftIndex),
        (s.pad2.strobe, s.pad2.shiftIndex), rfl⟩
    · exact BusOnly.refl s
  split
  · exact BusOnly.setPpu s _
  · exact BusOnly.setPpu s _

theorem ppuRegWrite_busOnly (n : Nat) (v : Byte) (s : State) : BusOnly s (ppuRegWrite n v s) := by
  unfold ppuRegWrite
  split <;> first
    | exact BusOnly.setPpu s _
    | exact (ppuWrite_busOnly _ v s).trans (BusOnly.setPpu _ _)

/-- The OAM DMA does its bus reads and writes OAM, nothing else (60_exceptions.md R275). -/
theorem dmaByte_frame (page : Byte) (i : Nat) (s : State) :
    ∃ u, ReadsOnly s u ∧ ∃ m, dmaByte page i s = u.setPpu { u.ppu with oam := m } :=
  ⟨_, memRead_readsOnly _ s, _, rfl⟩

theorem dmaCopy_busOnly (page : Byte) (k : Nat) (s : State) : BusOnly s (dmaCopy page k s) := by
  induction k with
  | zero => exact BusOnly.refl s
  | succ k ih =>
    obtain ⟨u, hu, m, hm⟩ := dmaByte_frame page k (dmaCopy page k s)
    rw [dmaCopy, hm]
    exact ih.trans (hu.busOnly.trans (BusOnly.setPpu u _))

/-- The OAM DMA leaves `oam_addr`, the other PPU memories and everything outside the devices as they
were (60_exceptions.md R275). -/
theorem dmaCopy_frame (page : Byte) (k : Nat) (s : State) :
    ∃ (st : Byte) (wt : Bool) (rb : Byte) (v : VramReg) (m : Memory) (i1 i2 : Nat),
      dmaCopy page k s = { s with
        ppu := { s.ppu with status := st, writeToggle := wt, readBuffer := rb, v := v, oam := m }
        pad1 := { s.pad1 with shiftIndex := i1 }
        pad2 := { s.pad2 with shiftIndex := i2 } } := by
  induction k with
  | zero =>
    exact ⟨s.ppu.status, s.ppu.writeToggle, s.ppu.readBuffer, s.ppu.v, s.ppu.oam, s.pad1.shiftIndex,
      s.pad2.shiftIndex, rfl⟩
  | succ k ih =>
    obtain ⟨_, _, _, _, _, _, _, hk⟩ := ih
    obtain ⟨u, ⟨st, wt, rb, v, i1, i2, hu⟩, m, hm⟩ := dmaByte_frame page k (dmaCopy page k s)
    rw [dmaCopy, hm, hu, hk]
    exact ⟨st, wt, rb, v, m, i1, i2, rfl⟩

/-- A bus write changes memories and devices only (20_memory.md R53). -/
theorem memWrite_busOnly (addr : Word) (v : Byte) (s : State) : BusOnly s (memWrite addr v s) := by
  simp only [memWrite]
  split
  · exact ⟨_, s.prgRam, s.chr, s.ppu, (s.pad1.strobe, s.pad1.shiftIndex),
      (s.pad2.strobe, s.pad2.shiftIndex), rfl⟩
  split
  · exact ppuRegWrite_busOnly _ v s
  split
  · exact dmaCopy_busOnly v 256 s
  split
  · exact ⟨s.ram, s.prgRam, s.chr, s.ppu, ((s.pad1.write v).strobe, (s.pad1.write v).shiftIndex),
      ((s.pad2.write v).strobe, (s.pad2.write v).shiftIndex), rfl⟩
  split
  · exact BusOnly.refl s
  split
  · exact ⟨s.ram, _, s.chr, s.ppu, (s.pad1.strobe, s.pad1.shiftIndex),
      (s.pad2.strobe, s.pad2.shiftIndex), rfl⟩
  · exact BusOnly.refl s

/-- A write to work RAM (20_memory.md R54). -/
theorem memWrite_ram {addr : Word} (v : Byte) (s : State) (h : addr.toNat < 0x2000) :
    memWrite addr v s = s.setRam (s.ram.write (addr.toNat % 0x0800) v) := by
  simp [memWrite, h]

/-- A write to the PPU register window (20_memory.md R55). -/
theorem memWrite_ppu {addr : Word} (v : Byte) (s : State) (h1 : 0x2000 ≤ addr.toNat)
    (h2 : addr.toNat < 0x4000) : memWrite addr v s = ppuRegWrite (addr.toNat % 8) v s := by
  simp only [memWrite]
  rw [if_neg (by omega), if_pos h2]

/-- A write to 0x4014 runs the OAM DMA (20_memory.md R56). -/
theorem memWrite_dma (v : Byte) (s : State) : memWrite oamDmaAddr v s = oamDma v s := rfl

/-- A write to 0x4016 reaches both controllers (20_memory.md R57). -/
theorem memWrite_pads (v : Byte) (s : State) : memWrite 0x4016#16 v s = writePads v s := rfl

/-- A write to an unmapped address does nothing (20_memory.md R58). -/
theorem memWrite_unmapped {addr : Word} (v : Byte) (s : State) (h1 : 0x4000 ≤ addr.toNat)
    (h2 : addr.toNat < 0x6000) (h3 : addr.toNat ≠ 0x4014) (h4 : addr.toNat ≠ 0x4016) :
    memWrite addr v s = s := by
  simp only [memWrite]
  rw [if_neg (by omega), if_neg (by omega), if_neg h3, if_neg h4, if_pos h2]

/-- A write to cartridge RAM (20_memory.md R59). -/
theorem memWrite_prgRam {addr : Word} (v : Byte) (s : State) (h1 : 0x6000 ≤ addr.toNat)
    (h2 : addr.toNat < 0x8000) :
    memWrite addr v s = s.setPrgRam (s.prgRam.write (addr.toNat - 0x6000) v) := by
  simp only [memWrite]
  rw [if_neg (by omega), if_neg (by omega), if_neg (by omega), if_neg (by omega), if_neg (by omega),
    if_pos h2]

/-- A write to PRG ROM does nothing (20_memory.md R62, R64). -/
theorem memWrite_rom {addr : Word} (v : Byte) (s : State) (h : 0x8000 ≤ addr.toNat) :
    memWrite addr v s = s := by
  simp only [memWrite]
  rw [if_neg (by omega), if_neg (by omega), if_neg (by omega), if_neg (by omega), if_neg (by omega),
    if_neg (by omega)]
  rfl

/-- A write elsewhere than to a memory leaves work RAM and cartridge RAM alone. -/
theorem memWrite_device_rams {addr : Word} (v : Byte) (s : State) (h1 : 0x2000 ≤ addr.toNat)
    (h2 : addr.toNat < 0x6000 ∨ 0x8000 ≤ addr.toNat) :
    (memWrite addr v s).ram = s.ram ∧ (memWrite addr v s).prgRam = s.prgRam := by
  simp only [memWrite]
  rw [if_neg (by omega)]
  split
  · unfold ppuRegWrite writePpuData ppuWrite mapperPpuWrite
    repeat' split
    all_goals exact ⟨rfl, rfl⟩
  split
  · obtain ⟨_, _, _, _, _, _, _, h⟩ := dmaCopy_frame v 256 s
    rw [oamDma, h]
    exact ⟨rfl, rfl⟩
  split
  · exact ⟨rfl, rfl⟩
  split
  · exact ⟨rfl, rfl⟩
  split
  · omega
  · exact ⟨rfl, rfl⟩

/-- A write outside the PPU window and 0x4014 leaves the PPU and CHR alone. -/
theorem memWrite_leaves_ppu {addr : Word} (v : Byte) (s : State)
    (h : addr.toNat < 0x2000 ∨ 0x4000 ≤ addr.toNat) (hd : addr ≠ 0x4014#16) :
    (memWrite addr v s).ppu = s.ppu := by
  have h14 : addr.toNat ≠ 0x4014 := fun e => hd (BitVec.eq_of_toNat_eq e)
  simp only [memWrite]
  repeat' split
  all_goals first
    | rfl
    | omega

/-- A write outside the PPU window leaves CHR alone. -/
theorem memWrite_leaves_chr {addr : Word} (v : Byte) (s : State)
    (h : addr.toNat < 0x2000 ∨ 0x4000 ≤ addr.toNat) : (memWrite addr v s).chr = s.chr := by
  simp only [memWrite]
  split
  · rfl
  split
  · omega
  split
  · obtain ⟨_, _, _, _, _, _, _, hf⟩ := dmaCopy_frame v 256 s
    rw [oamDma, hf]
  repeat' split
  all_goals rfl

/-- A write elsewhere than to 0x4014 and 0x4016 leaves the controllers alone. -/
theorem memWrite_leaves_pads {addr : Word} (v : Byte) (s : State) (h14 : addr ≠ 0x4014#16)
    (h16 : addr ≠ 0x4016#16) :
    (memWrite addr v s).pad1 = s.pad1 ∧ (memWrite addr v s).pad2 = s.pad2 := by
  have n14 : addr.toNat ≠ 0x4014 := fun e => h14 (BitVec.eq_of_toNat_eq e)
  have n16 : addr.toNat ≠ 0x4016 := fun e => h16 (BitVec.eq_of_toNat_eq e)
  simp only [memWrite]
  split
  · exact ⟨rfl, rfl⟩
  split
  · unfold ppuRegWrite writePpuData ppuWrite mapperPpuWrite
    repeat' split
    all_goals exact ⟨rfl, rfl⟩
  repeat' split
  all_goals exact ⟨rfl, rfl⟩

/-! ## The stack, fetching, exceptions -/

/-- A stack address lies in page 1 (10_state.md R23). -/
theorem stackAddr_toNat (sp : Byte) : (stackAddr sp).toNat = 0x0100 + sp.toNat := by
  have := sp.isLt
  simp only [stackAddr, wordOf, BitVec.toNat_append, BitVec.toNat_ofNat]
  rw [← Nat.shiftLeft_add_eq_or_of_lt (by omega)]
  omega

/-- Push writes one byte of work RAM and moves `SP` (10_state.md R23). -/
theorem push_eq (v : Byte) (s : State) :
    push v s = { s with ram := s.ram.write (0x0100 + s.sp.toNat) v, sp := s.sp - 0x01#8 } := by
  have h := stackAddr_toNat s.sp
  have hlt := s.sp.isLt
  unfold push
  rw [memWrite_ram v s (by omega), h, Nat.mod_eq_of_lt (by omega)]
  rfl

/-- Pull moves `SP` and reads one byte of work RAM (10_state.md R23). -/
theorem pull_eq (s : State) :
    pull s = (s.ram.read (0x0100 + (s.sp + 0x01#8).toNat), { s with sp := s.sp + 0x01#8 }) := by
  have h := stackAddr_toNat (s.sp + 0x01#8)
  have hlt := (s.sp + 0x01#8).isLt
  unfold pull
  simp only [State.setSp]
  rw [memRead_ram _ (by omega), h, Nat.mod_eq_of_lt (by omega)]

/-- A fetch reads the byte at `PC` and moves `PC` (30_encoding.md R101). -/
theorem fetchByte_readsOnly (s : State) :
    ∃ u, ReadsOnly s u ∧ fetchByte s = ((memRead s.pc s).1, { u with pc := s.pc + 1#16 }) := by
  obtain ⟨st, wt, rb, v, i1, i2, h⟩ := memRead_readsOnly s.pc s
  refine ⟨(memRead s.pc s).2, memRead_readsOnly s.pc s, ?_⟩
  simp only [fetchByte, State.setPc]
  rw [h]

/-- Two bytes of work RAM written by pushing a word: the high byte first (43_control_flow.md R202). -/
theorem pushWord_eq (w : Word) (s : State) :
    pushWord w s =
      { s with
        ram := (s.ram.write (0x0100 + s.sp.toNat) (hiByte w)).write (0x0100 + (s.sp - 0x01#8).toNat) (loByte w)
        sp := s.sp - 0x02#8 } := by
  have h2 : s.sp - 0x01#8 - 0x01#8 = s.sp - 0x02#8 := by
    rw [BitVec.sub_sub]; rfl
  unfold pushWord
  rw [push_eq (hiByte w) s, push_eq]
  simp only [h2]

/-- Taking an exception: three stack bytes, `SP`, `I` and `PC`, nothing else (60_exceptions.md R255,
R258). The vector is one of the three, all in PRG ROM. -/
theorem takeException_eq (ret : Word) (status : Byte) (vector : Word) (s : State)
    (hv : 0x8000 ≤ vector.toNat) (hv' : vector.toNat < 0xFFFF) :
    takeException ret status vector s =
      { s with
        ram := ((s.ram.write (0x0100 + s.sp.toNat) (hiByte ret)).write (0x0100 + (s.sp - 0x01#8).toNat)
          (loByte ret)).write (0x0100 + (s.sp - 0x02#8).toNat) status
        sp := s.sp - 0x03#8
        p := setFlag .I true s.p
        pc := wordOf (s.cart.cpuRead vector) (s.cart.cpuRead (vector + 1#16)) } := by
  have h3 : s.sp - 0x02#8 - 0x01#8 = s.sp - 0x03#8 := by
    rw [BitVec.sub_sub]; rfl
  unfold takeException
  rw [pushWord_eq, push_eq]
  simp only [State.setP, State.setPc]
  rw [read16_rom _ hv hv']
  simp only [h3]

/-- Returning: `P` and `PC` from three stack bytes, `SP` up by three, nothing else
(44_stack_flag_system.md R241). -/
theorem returnFromException_eq (s : State) :
    returnFromException s =
      { s with
        p := pulledStatus (s.ram.read (0x0100 + (s.sp + 0x01#8).toNat))
        pc := wordOf (s.ram.read (0x0100 + (s.sp + 0x02#8).toNat)) (s.ram.read (0x0100 + (s.sp + 0x03#8).toNat))
        sp := s.sp + 0x03#8 } := by
  have h2 : s.sp + 0x01#8 + 0x01#8 = s.sp + 0x02#8 := by rw [BitVec.add_assoc]; rfl
  have h3 : s.sp + 0x02#8 + 0x01#8 = s.sp + 0x03#8 := by rw [BitVec.add_assoc]; rfl
  simp only [returnFromException, pullWord, pull_eq, State.setP, State.setPc, h2, h3]

/-- An NMI sequence (60_exceptions.md R256). -/
theorem nmi_eq (s : State) :
    nmi s =
      { s with
        ram := ((s.ram.write (0x0100 + s.sp.toNat) (hiByte s.pc)).write (0x0100 + (s.sp - 0x01#8).toNat)
          (loByte s.pc)).write (0x0100 + (s.sp - 0x02#8).toNat) (pushedByInterrupt s.p)
        sp := s.sp - 0x03#8
        p := setFlag .I true s.p
        pc := wordOf (s.cart.cpuRead 0xFFFA#16) (s.cart.cpuRead 0xFFFB#16)
        cycles := s.cycles + 7 } := by
  unfold nmi
  rw [takeException_eq _ _ _ _ (by decide) (by decide)]
  rfl

/-- An IRQ sequence (60_exceptions.md R257). -/
theorem irq_eq (s : State) (h : getFlag .I s.p = false) :
    irq s =
      { s with
        ram := ((s.ram.write (0x0100 + s.sp.toNat) (hiByte s.pc)).write (0x0100 + (s.sp - 0x01#8).toNat)
          (loByte s.pc)).write (0x0100 + (s.sp - 0x02#8).toNat) (pushedByInterrupt s.p)
        sp := s.sp - 0x03#8
        p := setFlag .I true s.p
        pc := wordOf (s.cart.cpuRead 0xFFFE#16) (s.cart.cpuRead 0xFFFF#16)
        cycles := s.cycles + 7 } := by
  unfold irq
  rw [h, if_neg (by decide), takeException_eq _ _ _ _ (by decide) (by decide)]
  rfl

end Sys2Proof.Machine
end

