-- ==== Sys2Proof/Laws/Flags.lean ====
section
/-! SUPPORT. What each flag computation does to each flag of `P`. -/

namespace Sys2Proof.Machine

/-- The mask of a flag has that flag's bit and no other. -/
theorem getFlag_mask (f g : Flag) : getFlag g f.mask = decide (g = f) := by
  cases f <;> cases g <;> rfl

/-- Writing one flag sets it and leaves every other flag alone. -/
@[simp] theorem getFlag_setFlag (f g : Flag) (b : Bool) (p : Byte) :
    getFlag g (setFlag f b p) = if g = f then b else getFlag g p := by
  have hm := getFlag_mask f g
  have hlt : g.bit < 8 := by cases g <;> decide
  unfold getFlag bitOf at hm
  cases b <;> by_cases hgf : g = f <;>
    simp_all [setFlag, getFlag, bitOf]

/-- Two status bytes with the same flags are equal. -/
theorem flags_ext {p q : Byte} (h : ∀ f : Flag, getFlag f p = getFlag f q) : p = q := by
  apply BitVec.eq_of_getLsbD_eq
  intro i hi
  have hcases : i = 0 ∨ i = 1 ∨ i = 2 ∨ i = 3 ∨ i = 4 ∨ i = 5 ∨ i = 6 ∨ i = 7 := by omega
  rcases hcases with rfl | rfl | rfl | rfl | rfl | rfl | rfl | rfl
  · exact h .C
  · exact h .Z
  · exact h .I
  · exact h .D
  · exact h .B
  · exact h .U
  · exact h .V
  · exact h .N

/-- `SetZN` writes `Z` and `N` from the value and nothing else (10_state.md R26). -/
@[simp] theorem getFlag_setZN (g : Flag) (v p : Byte) :
    getFlag g (setZN v p) =
      if g = .N then bitOf v 7 else if g = .Z then decide (v = 0x00#8) else getFlag g p := by
  simp [setZN]

/-- The byte PHP and BRK push has `B` and `U` set and the other flags as in `P`. -/
theorem getFlag_pushedByInstruction (g : Flag) (p : Byte) :
    getFlag g (pushedByInstruction p) = (decide (g = .B) || decide (g = .U) || getFlag g p) := by
  cases g <;> simp [getFlag, pushedByInstruction, bitOf, Flag.bit]

/-- The byte NMI and IRQ push has `B` clear, `U` set and the other flags as in `P`. -/
theorem getFlag_pushedByInterrupt (g : Flag) (p : Byte) :
    getFlag g (pushedByInterrupt p) = (decide (g = .U) || (decide (g ≠ .B) && getFlag g p)) := by
  cases g <;> simp [getFlag, pushedByInterrupt, bitOf, Flag.bit]

/-- The byte PLP and RTI load has `B` clear, `U` set and the other flags as pulled. -/
@[simp] theorem getFlag_pulledStatus (g : Flag) (b : Byte) :
    getFlag g (pulledStatus b) =
      if g = .U then true else if g = .B then false else getFlag g b := by
  cases g <;> simp [getFlag, pulledStatus, bitOf, Flag.bit]

/-- ADC's flags (41_arithmetic_logic.md R163). -/
theorem getFlag_adc (g : Flag) (a m p : Byte) :
    getFlag g (adcAlu a m p).p =
      if g = .N then bitOf (adcAlu a m p).val 7
      else if g = .Z then decide ((adcAlu a m p).val = 0x00#8)
      else if g = .V then bitOf (~~~(a ^^^ m) &&& (a ^^^ (adcAlu a m p).val)) 7
      else if g = .C then decide (255 < a.toNat + m.toNat + (getFlag .C p).toNat)
      else getFlag g p := by
  unfold adcAlu
  rw [getFlag_setZN, getFlag_setFlag, getFlag_setFlag]

/-- ADC's result is the sum reduced modulo 256 (41_arithmetic_logic.md R160, R163). -/
theorem adc_val_toNat (a m p : Byte) :
    (adcAlu a m p).val.toNat = (a.toNat + m.toNat + (getFlag .C p).toNat) % 256 := by
  simp [adcAlu]

/-- The flags of a shift: `C` the bit shifted out, `Z` and `N` from the result
(42_shift_rotate.md R190). -/
theorem getFlag_shift (g : Flag) (out : Bool) (r p : Byte) :
    getFlag g (shiftAlu out r p).p =
      if g = .N then bitOf r 7 else if g = .Z then decide (r = 0x00#8)
      else if g = .C then out else getFlag g p := by
  simp only [shiftAlu, getFlag_setZN, getFlag_setFlag]

/-- A compare's flags (41_arithmetic_logic.md R168). -/
theorem getFlag_compare (g : Flag) (r m p : Byte) :
    getFlag g (compareFlags r m p) =
      if g = .N then bitOf (r - m) 7 else if g = .Z then decide (r - m = 0x00#8)
      else if g = .C then decide (m.toNat ≤ r.toNat) else getFlag g p := by
  simp only [compareFlags, getFlag_setZN, getFlag_setFlag]

/-- BIT's flags (41_arithmetic_logic.md R171). -/
theorem getFlag_bit (g : Flag) (a m p : Byte) :
    getFlag g (bitFlags a m p) =
      if g = .V then bitOf m 6 else if g = .N then bitOf m 7
      else if g = .Z then decide (a &&& m = 0x00#8) else getFlag g p := by
  simp only [bitFlags, getFlag_setFlag]

/-- No flag computation of an instruction touches `B` or `U`: they keep what `P` had. -/
theorem setZN_fixed (v p : Byte) : getFlag .B (setZN v p) = getFlag .B p ∧ getFlag .U (setZN v p) = getFlag .U p := by
  simp

end Sys2Proof.Machine
end

