-- ==== Sys2Proof/Laws/Operands.lean ====
section
/-! SUPPORT. What each addressing mode and each way of using one does, said once. -/

namespace Sys2Proof.Machine

/-! ## Bytes and words as numbers -/

theorem hiByte_toNat (w : Word) : (hiByte w).toNat = w.toNat / 256 := by
  have := w.isLt
  simp only [hiByte, BitVec.extractLsb'_toNat, Nat.shiftRight_eq_div_pow]
  omega

theorem loByte_toNat (w : Word) : (loByte w).toNat = w.toNat % 256 := by
  simp [loByte, BitVec.extractLsb'_toNat]

theorem wordOf_toNat (lo hi : Byte) : (wordOf lo hi).toNat = lo.toNat + 256 * hi.toNat := by
  have := lo.isLt
  simp only [wordOf, BitVec.toNat_append]
  rw [← Nat.shiftLeft_add_eq_or_of_lt (by omega), Nat.shiftLeft_eq]
  omega

theorem wordOf_lo_hi (w : Word) : wordOf (loByte w) (hiByte w) = w := by
  apply BitVec.eq_of_toNat_eq
  rw [wordOf_toNat, loByte_toNat, hiByte_toNat]
  omega

theorem zext16_toNat (b : Byte) : (zext16 b).toNat = b.toNat := by
  have := b.isLt
  simp only [zext16, BitVec.toNat_setWidth]
  omega

/-! ## Addressing modes -/

/-- The pointer of an indirect mode comes from page zero of work RAM, with no side effect
(30_encoding.md R113, R114). -/
theorem readZeroPagePointer_eq (z : Byte) (s : State) :
    readZeroPagePointer z s = (wordOf (s.ram.read z.toNat) (s.ram.read (z + 0x01#8).toNat), s) := by
  have h1 := z.isLt
  have h2 := (z + 0x01#8).isLt
  simp only [readZeroPagePointer, readPair]
  rw [memRead_ram s (by rw [zext16_toNat]; omega)]
  simp only []
  rw [memRead_ram s (by rw [zext16_toNat]; omega), zext16_toNat, zext16_toNat,
    Nat.mod_eq_of_lt (by omega), Nat.mod_eq_of_lt (by omega)]

/-- No addressing mode changes the state. -/
@[simp] theorem resolve_state (o : MemOperand) (s : State) : (o.resolve s).st = s := by
  cases o <;> simp [MemOperand.resolve, indexed, readZeroPagePointer_eq]

/-- The effective address depends on `X`, `Y` and page zero of work RAM only. -/
theorem resolve_congr (o : MemOperand) {s t : State} (hx : t.x = s.x) (hy : t.y = s.y) (hr : t.ram = s.ram) :
    (o.resolve t).ea = (o.resolve s).ea ∧ (o.resolve t).crossed = (o.resolve s).crossed := by
  cases o <;> simp [MemOperand.resolve, indexed, readZeroPagePointer_eq, hx, hy, hr]

/-! ## The four ways to use an operand -/

/-- A read: the immediate, or one bus read at the effective address (30_encoding.md R100). -/
theorem fetch_imm (b : Byte) (s : State) :
    (Source.imm b).fetch s = { val := b, crossed := false, st := s } := rfl

theorem fetch_mem (o : MemOperand) (s : State) :
    (Source.mem o).fetch s =
      { val := (memRead (o.resolve s).ea s).1, crossed := (o.resolve s).crossed,
        st := (memRead (o.resolve s).ea s).2 } := by
  simp [Source.fetch]

/-- A read changes nothing but what a device read can change. -/
theorem fetch_readsOnly (o : Source) (s : State) : ReadsOnly s (o.fetch s).st := by
  cases o with
  | imm b => exact ReadsOnly.refl s
  | mem m => rw [fetch_mem]; exact memRead_readsOnly _ s

/-- A read form completes: its action on the byte read, and the row's cycles. -/
theorem readOp_next (base : Nat) (penalty : Bool) (o : Source) (act : Byte → State → State) (s : State) :
    readOp base penalty o act s =
      .next ((act (o.fetch s).val (o.fetch s).st).addCycles (base + pagePenalty penalty (o.fetch s).crossed)) :=
  rfl

/-- A store form completes: one bus write, and the row's cycles with the DMA stall. -/
theorem storeOp_next (base : Nat) (o : MemOperand) (val : Byte) (s : State) :
    storeOp base o val s =
      .next ((memWrite (o.resolve s).ea val s).addCycles (base + dmaStall (o.resolve s).ea s.cycles)) := by
  simp [storeOp, finish]

/-- A read-modify-write form completes: one bus read, one bus write, the flags, and the row's cycles. -/
theorem modifyOp_next (base : Nat) (o : MemOperand) (alu : Byte → Byte → Alu) (s : State) :
    modifyOp base o alu s =
      (let ea := (o.resolve s).ea
       let res := alu (memRead ea s).1 s.p
       .next (((memWrite ea res.val (memRead ea s).2).setP res.p).addCycles (base + dmaStall ea s.cycles))) := by
  simp [modifyOp, finish]

/-- An accumulator form completes. -/
theorem accumulatorOp_next (base : Nat) (alu : Byte → Byte → Alu) (s : State) :
    accumulatorOp base alu s =
      .next { s with a := (alu s.a s.p).val, p := (alu s.a s.p).p, cycles := s.cycles + base } := rfl

/-- A branch completes, and moves `PC` and the cycles only (43_control_flow.md R203). -/
theorem branch_next (cond : Bool) (off : Byte) (s : State) :
    branch cond off s = .next { s with
      pc := if cond then branchTarget off s else s.pc
      cycles := s.cycles +
        if cond then (if page (branchTarget off s) = page s.pc then 3 else 4) else 2 } := by
  cases cond <;> rfl

end Sys2Proof.Machine
end

