-- ==== Sys2Proof/Laws/Invariant.lean ====
section
/-! SUPPORT. The bus operations keep the parts of the invariant they can touch. -/

namespace Sys2Proof.Machine

/-! ## Memories -/

/-- A write inside its array keeps the array well formed. -/
theorem Memory.ok_write {size k : Nat} {m : Memory} (h : m.ok size) (hk : k < size) (v : Byte) :
    (m.write k v).ok size :=
  ⟨Memory.wf_write h.1 k v, Memory.fits_write h.2 hk v⟩

/-- A memory made from at most `size` bytes is well formed. -/
theorem Memory.ok_ofBytes {size : Nat} {bytes : List Byte} (h : bytes.length ≤ size) :
    (Memory.ofBytes bytes).ok size :=
  ⟨Memory.wf_ofBytes bytes, Memory.fits_ofBytes h⟩

/-- A memory with no listed cell is well formed. -/
theorem Memory.ok_nil (size : Nat) : Memory.ok size [] := ⟨rfl, rfl⟩

/-- A 6-bit value written into a memory of 6-bit values. -/
theorem Memory.sixBit_write {m : Memory} (hw : m.wf = true) (h : m.sixBit) (k : Nat) {v : Byte}
    (hv : v &&& 0xC0#8 = 0x00#8) : (m.write k v).sixBit := by
  intro j
  rw [Memory.read_write hw]
  split
  · exact hv
  · exact h j

/-- A cell outside its array reads as unlisted. -/
theorem Memory.read_outside {size k : Nat} {m : Memory} (h : m.fits size = true) (hk : size ≤ k) :
    m.read k = unlistedByte := by
  induction m with
  | nil => rfl
  | cons c m ih =>
    obtain ⟨j, v⟩ := c
    have h' : j < size ∧ Memory.fits size m = true := by simpa [Memory.fits] using h
    rw [Memory.read_cons, if_neg (by omega)]
    exact ih h'.2

/-- Masking with 0x3F leaves a 6-bit value. -/
theorem mask_sixBit (v : Byte) : (v &&& 0x3F#8) &&& 0xC0#8 = 0x00#8 := by
  rw [BitVec.and_assoc]; simp

/-- A masked value with more bits masked away still has its masked bits 0. -/
theorem and_and_zero {a m n : Byte} (h : a &&& n = 0x00#8) : (a &&& m) &&& n = 0x00#8 := by
  rw [BitVec.and_assoc, BitVec.and_comm m n, ← BitVec.and_assoc, h]; simp

/-- Setting bits outside the mask keeps the masked bits 0. -/
theorem or_and_zero {a m n : Byte} (h : a &&& n = 0x00#8) (hm : m &&& n = 0x00#8) :
    (a ||| m) &&& n = 0x00#8 := by
  apply BitVec.eq_of_getLsbD_eq
  intro i hi
  have h1 := congrArg (fun b : Byte => b.getLsbD i) h
  have h2 := congrArg (fun b : Byte => b.getLsbD i) hm
  simp only [BitVec.getLsbD_and, BitVec.getLsbD_zero] at h1 h2
  simp only [BitVec.getLsbD_and, BitVec.getLsbD_or, BitVec.getLsbD_zero]
  cases ha : a.getLsbD i <;> cases hm' : m.getLsbD i <;> simp_all

/-! ## Indices of the PPU's memories -/

theorem ntIndex_lt (m : Config.Mirroring) (a : PpuAddr) : ntIndex m a < Config.vramSize := by
  have key : ∀ x : PpuAddr, x &&& 0x07FF#14 = x → x.toNat < 2048 := by
    intro x hx
    rw [← hx, BitVec.toNat_and]
    exact Nat.lt_of_le_of_lt Nat.and_le_right (by decide)
  cases m with
  | vertical =>
    apply key
    rw [BitVec.and_assoc]; simp
  | horizontal =>
    apply key
    apply BitVec.eq_of_getLsbD_eq
    intro i hi
    have : i = 0 ∨ i = 1 ∨ i = 2 ∨ i = 3 ∨ i = 4 ∨ i = 5 ∨ i = 6 ∨ i = 7 ∨ i = 8 ∨ i = 9 ∨ i = 10 ∨
      i = 11 ∨ i = 12 ∨ i = 13 := by omega
    rcases this with rfl|rfl|rfl|rfl|rfl|rfl|rfl|rfl|rfl|rfl|rfl|rfl|rfl|rfl <;> simp

theorem palIndex_lt (a : PpuAddr) : palIndex a < Config.paletteSize := by
  have h : ∀ x y : PpuAddr, y.toNat < 32 → (x &&& y).toNat < 32 := by
    intro x y hy
    rw [BitVec.toNat_and]
    exact Nat.lt_of_le_of_lt Nat.and_le_right hy
  simp only [palIndex]
  split
  · exact h _ _ (by decide)
  · exact h _ _ (by decide)

theorem prgIndex_lt {c : Cartridge} (h : c.Inv) (addr : Word) :
    c.prgIndex addr < Config.prgBankSize * c.prgBanks := by
  apply Nat.mod_lt
  rcases h.prgBanks with hb | hb <;> rw [hb] <;> decide

/-! ## Controllers -/

theorem Controller.inv_write {c : Controller} (h : c.Inv) (v : Byte) : (c.write v).Inv := by
  unfold Controller.write
  cases hv : bitOf v 0
  · exact ⟨by simpa using h.index, by simp⟩
  · exact ⟨by simp, by simp⟩

theorem Controller.inv_afterRead {c : Controller} (h : c.Inv) : c.afterRead.Inv := by
  unfold Controller.afterRead
  split
  · exact h
  · rename_i hs
    split
    · exact ⟨by simp; omega, fun hc => absurd hc hs⟩
    · exact h

/-- A read of a controller leaves its buttons alone. -/
@[simp] theorem Controller.afterRead_buttons (c : Controller) : c.afterRead.buttons = c.buttons := by
  unfold Controller.afterRead
  split
  · rfl
  · split <;> rfl

/-- A read of a controller leaves its strobe alone. -/
@[simp] theorem Controller.afterRead_strobe (c : Controller) : c.afterRead.strobe = c.strobe := by
  unfold Controller.afterRead
  split
  · rfl
  · split <;> rfl

/-! ## Bus reads -/

/-- A PPU register read keeps the PPU's invariant. -/
theorem Ppu.inv_afterStatusRead {p : Ppu} (h : p.Inv) : p.afterStatusRead.Inv :=
  { h with status := and_and_zero h.status }

theorem Ppu.inv_afterDataRead (env : PpuEnv) {p : Ppu} (h : p.Inv) : (p.afterDataRead env).Inv := { h with }

/-- A bus read keeps the invariant. -/
theorem memRead_inv (addr : Word) {s : State} (h : s.Inv) : (memRead addr s).2.Inv := by
  simp only [memRead]
  split
  · exact h
  split
  · unfold ppuRegRead
    split
    · exact { h with ppu := Ppu.inv_afterStatusRead h.ppu }
    · exact h
    · exact { h with ppu := Ppu.inv_afterDataRead _ h.ppu }
    · exact h
  split
  · exact { h with pad1 := Controller.inv_afterRead h.pad1 }
  split
  · exact { h with pad2 := Controller.inv_afterRead h.pad2 }
  repeat' split
  all_goals exact h

/-! ## Bus writes -/

/-- A PPU bus write keeps the invariant. -/
theorem ppuWrite_inv (addr : PpuAddr) (v : Byte) {s : State} (h : s.Inv) : (ppuWrite addr v s).Inv := by
  unfold ppuWrite mapperPpuWrite
  split
  · rename_i ha
    split
    · exact { h with chr := Memory.ok_write h.chr ha v }
    · exact h
  split
  · exact { h with ppu := { h.ppu with vram := Memory.ok_write h.ppu.vram (ntIndex_lt _ _) v } }
  · exact { h with ppu := { h.ppu with
      palette := Memory.ok_write h.ppu.palette (palIndex_lt _) _
      paletteSix := Memory.sixBit_write h.ppu.palette.1 h.ppu.paletteSix _ (mask_sixBit v) } }

/-- A PPU register write keeps the invariant. -/
theorem ppuRegWrite_inv (n : Nat) (v : Byte) {s : State} (h : s.Inv) : (ppuRegWrite n v s).Inv := by
  unfold ppuRegWrite
  split
  · exact { h with ppu := { h.ppu with } }
  · exact { h with ppu := { h.ppu with } }
  · exact { h with ppu := { h.ppu with } }
  · exact { h with ppu := { h.ppu with oam := Memory.ok_write h.ppu.oam s.ppu.oamAddr.isLt v } }
  · unfold Ppu.writeScroll
    split <;> exact { h with ppu := { h.ppu with } }
  · unfold Ppu.writeAddr
    split <;> exact { h with ppu := { h.ppu with } }
  · have h' := ppuWrite_inv s.ppu.dataAddr v h
    exact { h' with ppu := { h'.ppu with } }
  · exact h

theorem dmaByte_inv (page : Byte) (i : Nat) {s : State} (h : s.Inv) : (dmaByte page i s).Inv := by
  have h' := memRead_inv (wordOf (BitVec.ofNat 8 i) page) h
  exact { h' with ppu := { h'.ppu with oam := Memory.ok_write h'.ppu.oam (Nat.mod_lt _ (by decide)) _ } }

theorem dmaCopy_inv (page : Byte) (k : Nat) {s : State} (h : s.Inv) : (dmaCopy page k s).Inv := by
  induction k with
  | zero => exact h
  | succ k ih => exact dmaByte_inv page k ih

/-- A bus write keeps the invariant. -/
theorem memWrite_inv (addr : Word) (v : Byte) {s : State} (h : s.Inv) : (memWrite addr v s).Inv := by
  simp only [memWrite]
  split
  · exact { h with ram := Memory.ok_write h.ram (Nat.mod_lt _ (by decide)) v }
  split
  · exact ppuRegWrite_inv _ v h
  split
  · exact dmaCopy_inv v 256 h
  split
  · exact { h with pad1 := Controller.inv_write h.pad1 v, pad2 := Controller.inv_write h.pad2 v }
  split
  · exact h
  split
  · exact { h with prgRam := Memory.ok_write h.prgRam (by simp [Config.prgRamSize]; omega) v }
  · exact h

/-- What a bus write can never change: the invariant fields of the PPU's position and its NMI request. -/
theorem memRead_position (addr : Word) (s : State) :
    (memRead addr s).2.ppu.nmiPending = s.ppu.nmiPending ∧ (memRead addr s).2.ppu.clock = s.ppu.clock := by
  obtain ⟨_, _, _, _, _, _, h⟩ := memRead_readsOnly addr s
  rw [h]
  exact ⟨rfl, rfl⟩

theorem ppuWrite_position (addr : PpuAddr) (v : Byte) (s : State) :
    (ppuWrite addr v s).ppu.nmiPending = s.ppu.nmiPending ∧ (ppuWrite addr v s).ppu.clock = s.ppu.clock := by
  unfold ppuWrite mapperPpuWrite
  split
  · split <;> exact ⟨rfl, rfl⟩
  split <;> exact ⟨rfl, rfl⟩

theorem memWrite_position (addr : Word) (v : Byte) (s : State) :
    (memWrite addr v s).ppu.nmiPending = s.ppu.nmiPending ∧ (memWrite addr v s).ppu.clock = s.ppu.clock := by
  simp only [memWrite]
  split
  · exact ⟨rfl, rfl⟩
  split
  · unfold ppuRegWrite
    split
    · exact ⟨rfl, rfl⟩
    · exact ⟨rfl, rfl⟩
    · exact ⟨rfl, rfl⟩
    · exact ⟨rfl, rfl⟩
    · simp only [State.setPpu, Ppu.writeScroll]; split <;> exact ⟨rfl, rfl⟩
    · simp only [State.setPpu, Ppu.writeAddr]; split <;> exact ⟨rfl, rfl⟩
    · exact ppuWrite_position _ v s
    · exact ⟨rfl, rfl⟩
  split
  · obtain ⟨_, _, _, _, _, _, _, h⟩ := dmaCopy_frame v 256 s
    rw [oamDma, h]
    exact ⟨rfl, rfl⟩
  repeat' split
  all_goals exact ⟨rfl, rfl⟩

/-- CHR ROM is never written (20_memory.md R63). -/
theorem memWrite_chrRom (addr : Word) (v : Byte) (s : State) (h : s.cart.chrBanks ≠ 0) :
    (memWrite addr v s).chr = s.chr := by
  simp only [memWrite]
  split
  · rfl
  split
  · unfold ppuRegWrite writePpuData ppuWrite mapperPpuWrite
    split <;> try rfl
    simp only [State.setPpu, State.setChr, h, if_false]
    split
    · rfl
    split <;> rfl
  split
  · obtain ⟨_, _, _, _, _, _, _, hd⟩ := dmaCopy_frame v 256 s
    rw [oamDma, hd]
  repeat' split
  all_goals rfl

end Sys2Proof.Machine
end

