-- ==== Sys2Proof/Laws/Exec.lean ====
section
/-! SUPPORT. What an instruction can do, said once: it reads and writes the bus, sets registers and flags
other than `B` and `U`, and consumes cycles. Every property of all instructions follows by induction on
`Reaches`. -/

namespace Sys2Proof.Machine

/-- `P` may go from `p` to `q`: a set `U` stays set and a clear `B` stays clear (10_state.md R25). -/
def KeepsFixedBits (p q : Byte) : Prop :=
  (getFlag .U p = true → getFlag .U q = true) ∧ (getFlag .B p = false → getFlag .B q = false)

/-- `t` is reached from `s` by the actions an instruction is made of. -/
inductive Reaches (s : State) : State → Prop where
  | refl : Reaches s s
  | read {t : State} (addr : Word) : Reaches s t → Reaches s (memRead addr t).2
  | write {t : State} (addr : Word) (v : Byte) : Reaches s t → Reaches s (memWrite addr v t)
  | regs {t : State} (a x y sp : Byte) (pc : Word) (n : Nat) : Reaches s t →
      Reaches s { t with a := a, x := x, y := y, sp := sp, pc := pc, cycles := t.cycles + n }
  | status {t : State} (p : Byte) : KeepsFixedBits t.p p → Reaches s t → Reaches s { t with p := p }

namespace Reaches

variable {s t u : State}

theorem trans (h : Reaches s t) (h' : Reaches t u) : Reaches s u := by
  induction h' with
  | refl => exact h
  | read addr _ ih => exact .read addr ih
  | write addr v _ ih => exact .write addr v ih
  | regs a x y sp pc n _ ih => exact .regs a x y sp pc n ih
  | status p hp _ ih => exact .status p hp ih

/-- Every action of an instruction keeps the invariant. -/
theorem inv (h : Reaches s t) (hs : s.Inv) : t.Inv := by
  induction h with
  | refl => exact hs
  | read addr _ ih => exact memRead_inv addr ih
  | write addr v _ ih => exact memWrite_inv addr v ih
  | regs a x y sp pc n _ ih => exact { ih with }
  | status p hp _ ih => exact { ih with unused := hp.1 ih.unused, break_ := hp.2 ih.break_ }

/-- No action of an instruction changes the cartridge, an input of the host or the System's parity. -/
theorem outside (h : Reaches s t) :
    t.cart = s.cart ∧ t.irqLine = s.irqLine ∧ t.ctrlHighBits = s.ctrlHighBits ∧
    t.frameParity = s.frameParity ∧ t.pad1.buttons = s.pad1.buttons ∧ t.pad2.buttons = s.pad2.buttons := by
  induction h with
  | refl => exact ⟨rfl, rfl, rfl, rfl, rfl, rfl⟩
  | @read t addr _ ih =>
    obtain ⟨_, _, _, _, _, _, h⟩ := memRead_readsOnly addr t
    rw [h]; exact ih
  | @write t addr v _ ih =>
    obtain ⟨_, _, _, _, _, _, h⟩ := memWrite_busOnly addr v t
    rw [h]; exact ih
  | regs a x y sp pc n _ ih => exact ih
  | status p hp _ ih => exact ih

/-- No action of an instruction moves the PPU's position or touches its NMI request. -/
theorem position (h : Reaches s t) :
    t.ppu.nmiPending = s.ppu.nmiPending ∧ t.ppu.clock = s.ppu.clock := by
  induction h with
  | refl => exact ⟨rfl, rfl⟩
  | @read t addr _ ih =>
    have h := memRead_position addr t
    exact ⟨h.1.trans ih.1, h.2.trans ih.2⟩
  | @write t addr v _ ih =>
    have h := memWrite_position addr v t
    exact ⟨h.1.trans ih.1, h.2.trans ih.2⟩
  | regs a x y sp pc n _ ih => exact ih
  | status p hp _ ih => exact ih

/-- No action of an instruction writes CHR ROM. -/
theorem chrRom (h : Reaches s t) (hc : s.cart.chrBanks ≠ 0) : t.chr = s.chr := by
  induction h with
  | refl => rfl
  | @read t addr _ ih =>
    obtain ⟨_, _, _, _, _, _, h⟩ := memRead_readsOnly addr t
    rw [h]; exact ih
  | @write t addr v ht ih => rw [memWrite_chrRom addr v t (by rw [ht.outside.1]; exact hc), ih]
  | regs a x y sp pc n _ ih => exact ih
  | status p hp _ ih => exact ih

/-! ## The operations as actions -/

theorem setP {p : Byte} (hp : KeepsFixedBits s.p p) : Reaches s (s.setP p) := .status p hp .refl

theorem setSp (v : Byte) : Reaches s (s.setSp v) := .regs s.a s.x s.y v s.pc 0 .refl

theorem setPc (w : Word) : Reaches s (s.setPc w) := .regs s.a s.x s.y s.sp w 0 .refl

theorem addCycles (n : Nat) : Reaches s (s.addCycles n) := .regs s.a s.x s.y s.sp s.pc n .refl

theorem readPair (l h : Word) : Reaches s (readPair l h s).2 := .read h (.read l .refl)

theorem push (v : Byte) : Reaches s (push v s) := .trans (.write (stackAddr s.sp) v .refl) (setSp _)

theorem pull : Reaches s (pull s).2 :=
  .trans (setSp (s.sp + 0x01#8)) (.read (stackAddr (s.sp + 0x01#8)) .refl)

theorem pushWord (w : Word) : Reaches s (pushWord w s) := .trans (push _) (push _)

theorem pullWord : Reaches s (pullWord s).2 := .trans pull pull

end Reaches

/-! ## Flags -/

theorem KeepsFixedBits.refl (p : Byte) : KeepsFixedBits p p := ⟨id, id⟩

theorem KeepsFixedBits.trans {p q r : Byte} (h : KeepsFixedBits p q) (h' : KeepsFixedBits q r) :
    KeepsFixedBits p r :=
  ⟨fun hp => h'.1 (h.1 hp), fun hp => h'.2 (h.2 hp)⟩

theorem KeepsFixedBits.setFlag {f : Flag} (hU : f ≠ .U) (hB : f ≠ .B) (b : Bool) (p : Byte) :
    KeepsFixedBits p (setFlag f b p) := by
  simp [KeepsFixedBits, hU.symm, hB.symm]

theorem KeepsFixedBits.setZN (v p : Byte) : KeepsFixedBits p (setZN v p) := by simp [KeepsFixedBits]

theorem KeepsFixedBits.pulledStatus (p b : Byte) : KeepsFixedBits p (pulledStatus b) := by
  simp [KeepsFixedBits]

theorem KeepsFixedBits.adc (a m p : Byte) : KeepsFixedBits p (adcAlu a m p).p := by
  simp [KeepsFixedBits, getFlag_adc]

theorem KeepsFixedBits.shift (out : Bool) (r p : Byte) : KeepsFixedBits p (shiftAlu out r p).p := by
  simp [KeepsFixedBits, getFlag_shift]

theorem KeepsFixedBits.compare (r m p : Byte) : KeepsFixedBits p (compareFlags r m p) := by
  simp [KeepsFixedBits, getFlag_compare]

theorem KeepsFixedBits.bit (a m p : Byte) : KeepsFixedBits p (bitFlags a m p) := by
  simp [KeepsFixedBits, getFlag_bit]

/-! ## Actions on registers and flags -/

/-- An action on registers and flags that keeps `B` and `U`. -/
def IsRegisterAction (act : Byte → State → State) : Prop := ∀ v s, Reaches s (act v s)

theorem loadA_action : IsRegisterAction loadA := fun v s =>
  .trans (.regs v s.x s.y s.sp s.pc 0 .refl) (Reaches.setP (KeepsFixedBits.setZN v s.p))

theorem loadX_action : IsRegisterAction loadX := fun v s =>
  .trans (.regs s.a v s.y s.sp s.pc 0 .refl) (Reaches.setP (KeepsFixedBits.setZN v s.p))

theorem loadY_action : IsRegisterAction loadY := fun v s =>
  .trans (.regs s.a s.x v s.sp s.pc 0 .refl) (Reaches.setP (KeepsFixedBits.setZN v s.p))

theorem aluIntoA_action {alu : Byte → Byte → Byte → Alu} (h : ∀ a m p, KeepsFixedBits p (alu a m p).p) :
    IsRegisterAction (aluIntoA alu) := fun v s =>
  .trans (.regs (alu s.a v s.p).val s.x s.y s.sp s.pc 0 .refl) (Reaches.setP (h s.a v s.p))

theorem adcAct_action : IsRegisterAction adcAct := aluIntoA_action KeepsFixedBits.adc

theorem sbcAct_action : IsRegisterAction sbcAct := aluIntoA_action fun a _ p => KeepsFixedBits.adc a _ p

theorem andAct_action : IsRegisterAction andAct := fun _ s => loadA_action _ s

theorem oraAct_action : IsRegisterAction oraAct := fun _ s => loadA_action _ s

theorem eorAct_action : IsRegisterAction eorAct := fun _ s => loadA_action _ s

theorem cmpAct_action : IsRegisterAction cmpAct := fun m s => Reaches.setP (KeepsFixedBits.compare s.a m s.p)

theorem cpxAct_action : IsRegisterAction cpxAct := fun m s => Reaches.setP (KeepsFixedBits.compare s.x m s.p)

theorem cpyAct_action : IsRegisterAction cpyAct := fun m s => Reaches.setP (KeepsFixedBits.compare s.y m s.p)

theorem bitAct_action : IsRegisterAction bitAct := fun m s => Reaches.setP (KeepsFixedBits.bit s.a m s.p)

/-- A unary computation that keeps `B` and `U`. -/
def IsUnaryAlu (alu : Byte → Byte → Alu) : Prop := ∀ v p, KeepsFixedBits p (alu v p).p

theorem aslAlu_unary : IsUnaryAlu aslAlu := fun _ _ => KeepsFixedBits.shift _ _ _
theorem lsrAlu_unary : IsUnaryAlu lsrAlu := fun _ _ => KeepsFixedBits.shift _ _ _
theorem rolAlu_unary : IsUnaryAlu rolAlu := fun _ _ => KeepsFixedBits.shift _ _ _
theorem rorAlu_unary : IsUnaryAlu rorAlu := fun _ _ => KeepsFixedBits.shift _ _ _
theorem incAlu_unary : IsUnaryAlu incAlu := fun _ _ => KeepsFixedBits.setZN _ _
theorem decAlu_unary : IsUnaryAlu decAlu := fun _ _ => KeepsFixedBits.setZN _ _

/-! ## Completion -/

/-- `r` is a next state reached from `s` that has consumed at least two cycles. -/
def Ends (s : State) (r : Result) : Prop := ∃ t, r = .next t ∧ Reaches s t ∧ s.cycles + 2 ≤ t.cycles

theorem ends_finish {s u : State} {n : Nat} (h : Reaches s u) (hc : u.cycles = s.cycles) (hn : 2 ≤ n) :
    Ends s (finish n u) :=
  ⟨u.addCycles n, rfl, h.trans (Reaches.addCycles n), by simp [State.addCycles]; omega⟩

/-- The actions of the bus and of the register operations do not consume cycles. -/
theorem memWrite_cycles (addr : Word) (v : Byte) (s : State) : (memWrite addr v s).cycles = s.cycles := by
  obtain ⟨_, _, _, _, _, _, h⟩ := memWrite_busOnly addr v s
  rw [h]

theorem memRead_cycles (addr : Word) (s : State) : (memRead addr s).2.cycles = s.cycles := by
  obtain ⟨_, _, _, _, _, _, h⟩ := memRead_readsOnly addr s
  rw [h]

theorem readOp_ends {base : Nat} (penalty : Bool) (o : Source) {act : Byte → State → State} (s : State)
    (ha : IsRegisterAction act) (hc : ∀ v t, (act v t).cycles = t.cycles) (hb : 2 ≤ base) :
    Ends s (readOp base penalty o act s) := by
  have hr : Reaches s (o.fetch s).st := by
    cases o with
    | imm b => exact .refl
    | mem m => rw [fetch_mem]; exact .read _ .refl
  have hcy : (o.fetch s).st.cycles = s.cycles := by
    obtain ⟨_, _, _, _, _, _, h⟩ := fetch_readsOnly o s
    rw [h]
  exact ends_finish (hr.trans (ha _ _)) (by rw [hc, hcy]) (by omega)

theorem storeOp_ends {base : Nat} (o : MemOperand) (val : Byte) (s : State) (hb : 2 ≤ base) :
    Ends s (storeOp base o val s) := by
  simp only [storeOp, resolve_state]
  exact ends_finish (.write _ _ .refl) (memWrite_cycles _ _ _) (by omega)

theorem modifyOp_ends {base : Nat} (o : MemOperand) {alu : Byte → Byte → Alu} (s : State)
    (ha : IsUnaryAlu alu) (hb : 2 ≤ base) : Ends s (modifyOp base o alu s) := by
  simp only [modifyOp, resolve_state]
  refine ends_finish (Reaches.trans (.write _ _ (.read _ .refl)) (Reaches.setP ?_)) ?_ (by omega)
  · obtain ⟨_, _, _, _, _, _, hw⟩ := memWrite_busOnly (o.resolve s).ea
      (alu (memRead (o.resolve s).ea s).1 s.p).val (memRead (o.resolve s).ea s).2
    obtain ⟨_, _, _, _, _, _, hr⟩ := memRead_readsOnly (o.resolve s).ea s
    rw [hw, hr]
    exact ha _ _
  · rw [State.setP_cycles, memWrite_cycles, memRead_cycles]

theorem accumulatorOp_ends {alu : Byte → Byte → Alu} (s : State) (ha : IsUnaryAlu alu) :
    Ends s (accumulatorOp 2 alu s) :=
  ends_finish (.trans (.regs (alu s.a s.p).val s.x s.y s.sp s.pc 0 .refl) (Reaches.setP (ha s.a s.p))) rfl
    (Nat.le_refl 2)

theorem branch_ends (cond : Bool) (off : Byte) (s : State) : Ends s (branch cond off s) := by
  unfold branch
  split
  · refine ends_finish (Reaches.setPc _) rfl ?_
    split <;> omega
  · exact ends_finish .refl rfl (Nat.le_refl 2)

theorem takeException_reaches (ret : Word) (status : Byte) (vector : Word) (s : State) :
    Reaches s (takeException ret status vector s) :=
  ((Reaches.pushWord ret).trans (Reaches.push status)).trans
    ((Reaches.setP (KeepsFixedBits.setFlag (by decide) (by decide) true _)).trans
      ((Reaches.readPair _ _).trans (Reaches.setPc _)))

theorem returnFromException_reaches (s : State) : Reaches s (returnFromException s) :=
  Reaches.pull.trans
    ((Reaches.setP (KeepsFixedBits.pulledStatus _ _)).trans (Reaches.pullWord.trans (Reaches.setPc _)))

theorem nmi_reaches (s : State) : Reaches s (nmi s) :=
  (takeException_reaches _ _ _ s).trans (Reaches.addCycles _)

theorem irq_reaches (s : State) : Reaches s (irq s) := by
  unfold irq
  split
  · exact .refl
  · exact (takeException_reaches _ _ _ s).trans (Reaches.addCycles _)

/-! ## Every instruction -/

theorem Ends.next {s t : State} {r : Result} (he : Ends s r) (h : r = .next t) :
    Reaches s t ∧ s.cycles + 2 ≤ t.cycles := by
  obtain ⟨u, rfl, hu⟩ := he
  cases h
  exact hu

theorem push_cycles (v : Byte) (s : State) : (push v s).cycles = s.cycles := by rw [push_eq]

theorem takeException_cycles (ret : Word) (status : Byte) (vector : Word) (s : State)
    (hv : 0x8000 ≤ vector.toNat) (hv' : vector.toNat < 0xFFFF) :
    (takeException ret status vector s).cycles = s.cycles := by
  rw [takeException_eq _ _ _ _ hv hv']

/-- An instruction that completes does so by actions on the bus and the registers, in at least two
cycles. -/
theorem exec_next {i : Instr} {s t : State} (h : exec i s = .next t) :
    Reaches s t ∧ s.cycles + 2 ≤ t.cycles := by
  cases i with
  | jmpAbs w => exact (ends_finish (n := 3) (Reaches.setPc w) rfl (by decide)).next h
  | jmpInd w =>
    refine (ends_finish (n := 5) ((Reaches.readPair _ _).trans (Reaches.setPc _)) ?_ (by decide)).next h
    obtain ⟨_, _, _, _, _, _, hr⟩ := readPair_readsOnly w (jumpPointerHi w) s
    simp only [State.setPc, hr]
  | jsr w =>
    refine (ends_finish (n := 6) ((Reaches.pushWord _).trans (Reaches.setPc _)) ?_ (by decide)).next h
    simp only [State.setPc, pushWord_eq]
  | rts =>
    refine (ends_finish (n := 6) (Reaches.pullWord.trans (Reaches.setPc _)) ?_ (by decide)).next h
    simp only [State.setPc, pullWord, pull_eq]
  | pha => exact (ends_finish (n := 3) (Reaches.push _) (push_cycles _ _) (by decide)).next h
  | php => exact (ends_finish (n := 3) (Reaches.push _) (push_cycles _ _) (by decide)).next h
  | pla =>
    refine (ends_finish (n := 4) (Reaches.pull.trans (loadA_action _ _)) ?_ (by decide)).next h
    simp only [loadA, State.setP, State.setA, pull_eq]
  | plp =>
    refine (ends_finish (n := 4) (Reaches.pull.trans (Reaches.setP (KeepsFixedBits.pulledStatus _ _))) ?_
      (by decide)).next h
    simp only [State.setP, pull_eq]
  | brk =>
    exact (ends_finish (n := 7) (takeException_reaches _ _ _ _)
      (takeException_cycles _ _ _ _ (by decide) (by decide)) (by decide)).next h
  | rti =>
    refine (ends_finish (n := 6) (returnFromException_reaches _) ?_ (by decide)).next h
    rw [returnFromException_eq]
  | tax => exact (ends_finish (n := 2) (loadX_action _ _) rfl (by decide)).next h
  | tay => exact (ends_finish (n := 2) (loadY_action _ _) rfl (by decide)).next h
  | txa => exact (ends_finish (n := 2) (loadA_action _ _) rfl (by decide)).next h
  | tya => exact (ends_finish (n := 2) (loadA_action _ _) rfl (by decide)).next h
  | tsx => exact (ends_finish (n := 2) (loadX_action _ _) rfl (by decide)).next h
  | txs => exact (ends_finish (n := 2) (Reaches.setSp _) rfl (by decide)).next h
  | inx => exact (ends_finish (n := 2) (loadX_action _ _) rfl (by decide)).next h
  | iny => exact (ends_finish (n := 2) (loadY_action _ _) rfl (by decide)).next h
  | dex => exact (ends_finish (n := 2) (loadX_action _ _) rfl (by decide)).next h
  | dey => exact (ends_finish (n := 2) (loadY_action _ _) rfl (by decide)).next h
  | nop => exact (ends_finish (n := 2) .refl rfl (by decide)).next h
  | clc => exact (ends_finish (n := 2) (Reaches.setP (.setFlag (by decide) (by decide) _ _)) rfl (by decide)).next h
  | sec => exact (ends_finish (n := 2) (Reaches.setP (.setFlag (by decide) (by decide) _ _)) rfl (by decide)).next h
  | cli => exact (ends_finish (n := 2) (Reaches.setP (.setFlag (by decide) (by decide) _ _)) rfl (by decide)).next h
  | sei => exact (ends_finish (n := 2) (Reaches.setP (.setFlag (by decide) (by decide) _ _)) rfl (by decide)).next h
  | clv => exact (ends_finish (n := 2) (Reaches.setP (.setFlag (by decide) (by decide) _ _)) rfl (by decide)).next h
  | cld => exact (ends_finish (n := 2) (Reaches.setP (.setFlag (by decide) (by decide) _ _)) rfl (by decide)).next h
  | sed => exact (ends_finish (n := 2) (Reaches.setP (.setFlag (by decide) (by decide) _ _)) rfl (by decide)).next h
  | ldaIndX _ => exact (readOp_ends false _ s loadA_action (fun _ _ => rfl) (by decide)).next h
  | ldaZp _ => exact (readOp_ends false _ s loadA_action (fun _ _ => rfl) (by decide)).next h
  | ldaImm _ => exact (readOp_ends false _ s loadA_action (fun _ _ => rfl) (by decide)).next h
  | ldaAbs _ => exact (readOp_ends false _ s loadA_action (fun _ _ => rfl) (by decide)).next h
  | ldaIndY _ => exact (readOp_ends true _ s loadA_action (fun _ _ => rfl) (by decide)).next h
  | ldaZpX _ => exact (readOp_ends false _ s loadA_action (fun _ _ => rfl) (by decide)).next h
  | ldaAbsY _ => exact (readOp_ends true _ s loadA_action (fun _ _ => rfl) (by decide)).next h
  | ldaAbsX _ => exact (readOp_ends true _ s loadA_action (fun _ _ => rfl) (by decide)).next h
  | ldxImm _ => exact (readOp_ends false _ s loadX_action (fun _ _ => rfl) (by decide)).next h
  | ldxZp _ => exact (readOp_ends false _ s loadX_action (fun _ _ => rfl) (by decide)).next h
  | ldxAbs _ => exact (readOp_ends false _ s loadX_action (fun _ _ => rfl) (by decide)).next h
  | ldxZpY _ => exact (readOp_ends false _ s loadX_action (fun _ _ => rfl) (by decide)).next h
  | ldxAbsY _ => exact (readOp_ends true _ s loadX_action (fun _ _ => rfl) (by decide)).next h
  | ldyImm _ => exact (readOp_ends false _ s loadY_action (fun _ _ => rfl) (by decide)).next h
  | ldyZp _ => exact (readOp_ends false _ s loadY_action (fun _ _ => rfl) (by decide)).next h
  | ldyAbs _ => exact (readOp_ends false _ s loadY_action (fun _ _ => rfl) (by decide)).next h
  | ldyZpX _ => exact (readOp_ends false _ s loadY_action (fun _ _ => rfl) (by decide)).next h
  | ldyAbsX _ => exact (readOp_ends true _ s loadY_action (fun _ _ => rfl) (by decide)).next h
  | staIndX _ => exact (storeOp_ends _ _ s (by decide)).next h
  | staZp _ => exact (storeOp_ends _ _ s (by decide)).next h
  | staAbs _ => exact (storeOp_ends _ _ s (by decide)).next h
  | staIndY _ => exact (storeOp_ends _ _ s (by decide)).next h
  | staZpX _ => exact (storeOp_ends _ _ s (by decide)).next h
  | staAbsY _ => exact (storeOp_ends _ _ s (by decide)).next h
  | staAbsX _ => exact (storeOp_ends _ _ s (by decide)).next h
  | stxZp _ => exact (storeOp_ends _ _ s (by decide)).next h
  | stxAbs _ => exact (storeOp_ends _ _ s (by decide)).next h
  | stxZpY _ => exact (storeOp_ends _ _ s (by decide)).next h
  | styZp _ => exact (storeOp_ends _ _ s (by decide)).next h
  | styAbs _ => exact (storeOp_ends _ _ s (by decide)).next h
  | styZpX _ => exact (storeOp_ends _ _ s (by decide)).next h
  | adcIndX _ => exact (readOp_ends false _ s adcAct_action (fun _ _ => rfl) (by decide)).next h
  | adcZp _ => exact (readOp_ends false _ s adcAct_action (fun _ _ => rfl) (by decide)).next h
  | adcImm _ => exact (readOp_ends false _ s adcAct_action (fun _ _ => rfl) (by decide)).next h
  | adcAbs _ => exact (readOp_ends false _ s adcAct_action (fun _ _ => rfl) (by decide)).next h
  | adcIndY _ => exact (readOp_ends true _ s adcAct_action (fun _ _ => rfl) (by decide)).next h
  | adcZpX _ => exact (readOp_ends false _ s adcAct_action (fun _ _ => rfl) (by decide)).next h
  | adcAbsY _ => exact (readOp_ends true _ s adcAct_action (fun _ _ => rfl) (by decide)).next h
  | adcAbsX _ => exact (readOp_ends true _ s adcAct_action (fun _ _ => rfl) (by decide)).next h
  | sbcIndX _ => exact (readOp_ends false _ s sbcAct_action (fun _ _ => rfl) (by decide)).next h
  | sbcZp _ => exact (readOp_ends false _ s sbcAct_action (fun _ _ => rfl) (by decide)).next h
  | sbcImm _ => exact (readOp_ends false _ s sbcAct_action (fun _ _ => rfl) (by decide)).next h
  | sbcAbs _ => exact (readOp_ends false _ s sbcAct_action (fun _ _ => rfl) (by decide)).next h
  | sbcIndY _ => exact (readOp_ends true _ s sbcAct_action (fun _ _ => rfl) (by decide)).next h
  | sbcZpX _ => exact (readOp_ends false _ s sbcAct_action (fun _ _ => rfl) (by decide)).next h
  | sbcAbsY _ => exact (readOp_ends true _ s sbcAct_action (fun _ _ => rfl) (by decide)).next h
  | sbcAbsX _ => exact (readOp_ends true _ s sbcAct_action (fun _ _ => rfl) (by decide)).next h
  | andIndX _ => exact (readOp_ends false _ s andAct_action (fun _ _ => rfl) (by decide)).next h
  | andZp _ => exact (readOp_ends false _ s andAct_action (fun _ _ => rfl) (by decide)).next h
  | andImm _ => exact (readOp_ends false _ s andAct_action (fun _ _ => rfl) (by decide)).next h
  | andAbs _ => exact (readOp_ends false _ s andAct_action (fun _ _ => rfl) (by decide)).next h
  | andIndY _ => exact (readOp_ends true _ s andAct_action (fun _ _ => rfl) (by decide)).next h
  | andZpX _ => exact (readOp_ends false _ s andAct_action (fun _ _ => rfl) (by decide)).next h
  | andAbsY _ => exact (readOp_ends true _ s andAct_action (fun _ _ => rfl) (by decide)).next h
  | andAbsX _ => exact (readOp_ends true _ s andAct_action (fun _ _ => rfl) (by decide)).next h
  | oraIndX _ => exact (readOp_ends false _ s oraAct_action (fun _ _ => rfl) (by decide)).next h
  | oraZp _ => exact (readOp_ends false _ s oraAct_action (fun _ _ => rfl) (by decide)).next h
  | oraImm _ => exact (readOp_ends false _ s oraAct_action (fun _ _ => rfl) (by decide)).next h
  | oraAbs _ => exact (readOp_ends false _ s oraAct_action (fun _ _ => rfl) (by decide)).next h
  | oraIndY _ => exact (readOp_ends true _ s oraAct_action (fun _ _ => rfl) (by decide)).next h
  | oraZpX _ => exact (readOp_ends false _ s oraAct_action (fun _ _ => rfl) (by decide)).next h
  | oraAbsY _ => exact (readOp_ends true _ s oraAct_action (fun _ _ => rfl) (by decide)).next h
  | oraAbsX _ => exact (readOp_ends true _ s oraAct_action (fun _ _ => rfl) (by decide)).next h
  | eorIndX _ => exact (readOp_ends false _ s eorAct_action (fun _ _ => rfl) (by decide)).next h
  | eorZp _ => exact (readOp_ends false _ s eorAct_action (fun _ _ => rfl) (by decide)).next h
  | eorImm _ => exact (readOp_ends false _ s eorAct_action (fun _ _ => rfl) (by decide)).next h
  | eorAbs _ => exact (readOp_ends false _ s eorAct_action (fun _ _ => rfl) (by decide)).next h
  | eorIndY _ => exact (readOp_ends true _ s eorAct_action (fun _ _ => rfl) (by decide)).next h
  | eorZpX _ => exact (readOp_ends false _ s eorAct_action (fun _ _ => rfl) (by decide)).next h
  | eorAbsY _ => exact (readOp_ends true _ s eorAct_action (fun _ _ => rfl) (by decide)).next h
  | eorAbsX _ => exact (readOp_ends true _ s eorAct_action (fun _ _ => rfl) (by decide)).next h
  | cmpIndX _ => exact (readOp_ends false _ s cmpAct_action (fun _ _ => rfl) (by decide)).next h
  | cmpZp _ => exact (readOp_ends false _ s cmpAct_action (fun _ _ => rfl) (by decide)).next h
  | cmpImm _ => exact (readOp_ends false _ s cmpAct_action (fun _ _ => rfl) (by decide)).next h
  | cmpAbs _ => exact (readOp_ends false _ s cmpAct_action (fun _ _ => rfl) (by decide)).next h
  | cmpIndY _ => exact (readOp_ends true _ s cmpAct_action (fun _ _ => rfl) (by decide)).next h
  | cmpZpX _ => exact (readOp_ends false _ s cmpAct_action (fun _ _ => rfl) (by decide)).next h
  | cmpAbsY _ => exact (readOp_ends true _ s cmpAct_action (fun _ _ => rfl) (by decide)).next h
  | cmpAbsX _ => exact (readOp_ends true _ s cmpAct_action (fun _ _ => rfl) (by decide)).next h
  | cpxImm _ => exact (readOp_ends false _ s cpxAct_action (fun _ _ => rfl) (by decide)).next h
  | cpxZp _ => exact (readOp_ends false _ s cpxAct_action (fun _ _ => rfl) (by decide)).next h
  | cpxAbs _ => exact (readOp_ends false _ s cpxAct_action (fun _ _ => rfl) (by decide)).next h
  | cpyImm _ => exact (readOp_ends false _ s cpyAct_action (fun _ _ => rfl) (by decide)).next h
  | cpyZp _ => exact (readOp_ends false _ s cpyAct_action (fun _ _ => rfl) (by decide)).next h
  | cpyAbs _ => exact (readOp_ends false _ s cpyAct_action (fun _ _ => rfl) (by decide)).next h
  | bitZp _ => exact (readOp_ends false _ s bitAct_action (fun _ _ => rfl) (by decide)).next h
  | bitAbs _ => exact (readOp_ends false _ s bitAct_action (fun _ _ => rfl) (by decide)).next h
  | incZp _ => exact (modifyOp_ends _ s incAlu_unary (by decide)).next h
  | incAbs _ => exact (modifyOp_ends _ s incAlu_unary (by decide)).next h
  | incZpX _ => exact (modifyOp_ends _ s incAlu_unary (by decide)).next h
  | incAbsX _ => exact (modifyOp_ends _ s incAlu_unary (by decide)).next h
  | decZp _ => exact (modifyOp_ends _ s decAlu_unary (by decide)).next h
  | decAbs _ => exact (modifyOp_ends _ s decAlu_unary (by decide)).next h
  | decZpX _ => exact (modifyOp_ends _ s decAlu_unary (by decide)).next h
  | decAbsX _ => exact (modifyOp_ends _ s decAlu_unary (by decide)).next h
  | aslZp _ => exact (modifyOp_ends _ s aslAlu_unary (by decide)).next h
  | aslAcc => exact (accumulatorOp_ends s aslAlu_unary).next h
  | aslAbs _ => exact (modifyOp_ends _ s aslAlu_unary (by decide)).next h
  | aslZpX _ => exact (modifyOp_ends _ s aslAlu_unary (by decide)).next h
  | aslAbsX _ => exact (modifyOp_ends _ s aslAlu_unary (by decide)).next h
  | lsrZp _ => exact (modifyOp_ends _ s lsrAlu_unary (by decide)).next h
  | lsrAcc => exact (accumulatorOp_ends s lsrAlu_unary).next h
  | lsrAbs _ => exact (modifyOp_ends _ s lsrAlu_unary (by decide)).next h
  | lsrZpX _ => exact (modifyOp_ends _ s lsrAlu_unary (by decide)).next h
  | lsrAbsX _ => exact (modifyOp_ends _ s lsrAlu_unary (by decide)).next h
  | rolZp _ => exact (modifyOp_ends _ s rolAlu_unary (by decide)).next h
  | rolAcc => exact (accumulatorOp_ends s rolAlu_unary).next h
  | rolAbs _ => exact (modifyOp_ends _ s rolAlu_unary (by decide)).next h
  | rolZpX _ => exact (modifyOp_ends _ s rolAlu_unary (by decide)).next h
  | rolAbsX _ => exact (modifyOp_ends _ s rolAlu_unary (by decide)).next h
  | rorZp _ => exact (modifyOp_ends _ s rorAlu_unary (by decide)).next h
  | rorAcc => exact (accumulatorOp_ends s rorAlu_unary).next h
  | rorAbs _ => exact (modifyOp_ends _ s rorAlu_unary (by decide)).next h
  | rorZpX _ => exact (modifyOp_ends _ s rorAlu_unary (by decide)).next h
  | rorAbsX _ => exact (modifyOp_ends _ s rorAlu_unary (by decide)).next h
  | bcc _ => exact (branch_ends _ _ s).next h
  | bcs _ => exact (branch_ends _ _ s).next h
  | beq _ => exact (branch_ends _ _ s).next h
  | bne _ => exact (branch_ends _ _ s).next h
  | bmi _ => exact (branch_ends _ _ s).next h
  | bpl _ => exact (branch_ends _ _ s).next h
  | bvc _ => exact (branch_ends _ _ s).next h
  | bvs _ => exact (branch_ends _ _ s).next h
  | _ => exact absurd h (by exact nofun)

end Sys2Proof.Machine
end

