-- ==== Sys2Proof/Laws/Ppu.lean ====
section
/-! SUPPORT. What one tick of the PPU can change, piece by piece (62_ppu.md R330 to R353). -/

namespace Sys2Proof.Machine

/-- What no action of a dot changes: the registers the CPU writes, the counters, VRAM, palette, OAM. -/
structure SameRegisters (p q : Ppu) : Prop where
  ctrl : q.ctrl = p.ctrl
  mask : q.mask = p.mask
  oamAddr : q.oamAddr = p.oamAddr
  t : q.t = p.t
  fineX : q.fineX = p.fineX
  writeToggle : q.writeToggle = p.writeToggle
  readBuffer : q.readBuffer = p.readBuffer
  scanline : q.scanline = p.scanline
  dot : q.dot = p.dot
  frameCount : q.frameCount = p.frameCount
  vram : q.vram = p.vram
  palette : q.palette = p.palette
  oam : q.oam = p.oam

theorem SameRegisters.refl (p : Ppu) : SameRegisters p p :=
  ⟨rfl, rfl, rfl, rfl, rfl, rfl, rfl, rfl, rfl, rfl, rfl, rfl, rfl⟩

theorem SameRegisters.trans {p q r : Ppu} (h : SameRegisters p q) (h' : SameRegisters q r) :
    SameRegisters p r :=
  ⟨h'.ctrl.trans h.ctrl, h'.mask.trans h.mask, h'.oamAddr.trans h.oamAddr, h'.t.trans h.t,
    h'.fineX.trans h.fineX, h'.writeToggle.trans h.writeToggle, h'.readBuffer.trans h.readBuffer,
    h'.scanline.trans h.scanline, h'.dot.trans h.dot, h'.frameCount.trans h.frameCount,
    h'.vram.trans h.vram, h'.palette.trans h.palette, h'.oam.trans h.oam⟩

/-! ## The background pipeline -/

/-- What the background pipeline leaves alone beside the registers: `status`, the sprites, the
framebuffer and the NMI request. -/
structure SameSprites (p q : Ppu) : Prop where
  status : q.status = p.status
  spriteCount : q.spriteCount = p.spriteCount
  sprites : q.sprites = p.sprites
  spriteZeroSelected : q.spriteZeroSelected = p.spriteZeroSelected
  secondaryOam : q.secondaryOam = p.secondaryOam
  framebuffer : q.framebuffer = p.framebuffer
  nmiPending : q.nmiPending = p.nmiPending

theorem SameSprites.refl (p : Ppu) : SameSprites p p := ⟨rfl, rfl, rfl, rfl, rfl, rfl, rfl⟩

theorem SameSprites.trans {p q r : Ppu} (h : SameSprites p q) (h' : SameSprites q r) : SameSprites p r :=
  ⟨h'.status.trans h.status, h'.spriteCount.trans h.spriteCount, h'.sprites.trans h.sprites,
    h'.spriteZeroSelected.trans h.spriteZeroSelected, h'.secondaryOam.trans h.secondaryOam,
    h'.framebuffer.trans h.framebuffer, h'.nmiPending.trans h.nmiPending⟩

theorem bgPipelineStep_frame (env : PpuEnv) (d : Nat) (p : Ppu) :
    SameRegisters p (p.bgPipelineStep env d) ∧ SameSprites p (p.bgPipelineStep env d) := by
  unfold Ppu.bgPipelineStep Ppu.bgAction
  split <;> exact ⟨⟨rfl, rfl, rfl, rfl, rfl, rfl, rfl, rfl, rfl, rfl, rfl, rfl, rfl⟩,
    ⟨rfl, rfl, rfl, rfl, rfl, rfl, rfl⟩⟩

/-- A change of `v` alone. -/
theorem setV_frame (p : Ppu) (v : VramReg) : SameRegisters p { p with v := v } ∧ SameSprites p { p with v := v } :=
  ⟨⟨rfl, rfl, rfl, rfl, rfl, rfl, rfl, rfl, rfl, rfl, rfl, rfl, rfl⟩, ⟨rfl, rfl, rfl, rfl, rfl, rfl, rfl⟩⟩

theorem both_refl (p : Ppu) : SameRegisters p p ∧ SameSprites p p := ⟨.refl p, .refl p⟩

theorem both_trans {p q r : Ppu} (h : SameRegisters p q ∧ SameSprites p q)
    (h' : SameRegisters q r ∧ SameSprites q r) : SameRegisters p r ∧ SameSprites p r :=
  ⟨h.1.trans h'.1, h.2.trans h'.2⟩

theorem renderFetch_frame (env : PpuEnv) (s : Int) (d : Nat) (p : Ppu) :
    SameRegisters p (p.renderFetch env s d) ∧ SameSprites p (p.renderFetch env s d) := by
  simp only [Ppu.renderFetch]
  have h1 : ∀ q, q = (if (1 ≤ d ∧ d ≤ 256) ∨ (321 ≤ d ∧ d ≤ 336) then p.bgPipelineStep env d else p) →
      SameRegisters p q ∧ SameSprites p q := by
    intro q hq
    split at hq <;> rw [hq]
    · exact bgPipelineStep_frame env d p
    · exact both_refl p
  generalize (if (1 ≤ d ∧ d ≤ 256) ∨ (321 ≤ d ∧ d ≤ 336) then p.bgPipelineStep env d else p) = p1 at h1 ⊢
  refine both_trans (h1 p1 rfl) ?_
  have ite : ∀ (c : Prop) [Decidable c] (q r : Ppu) (v : VramReg), SameRegisters q r ∧ SameSprites q r →
      SameRegisters q (if c then { r with v := v } else r) ∧ SameSprites q (if c then { r with v := v } else r) := by
    intro c _ q r v h
    split
    · exact both_trans h (setV_frame r v)
    · exact h
  exact ite _ _ _ _ (ite _ _ _ _ (ite _ _ _ _ (both_refl p1)))

/-! ## Sprites -/

/-- What sprite evaluation leaves alone beside the registers: `v`, the background pipeline, the
framebuffer and the NMI request. -/
structure SameBackground (p q : Ppu) : Prop where
  v : q.v = p.v
  ntLatch : q.ntLatch = p.ntLatch
  atLatch : q.atLatch = p.atLatch
  patLoLatch : q.patLoLatch = p.patLoLatch
  patHiLatch : q.patHiLatch = p.patHiLatch
  bgPatLo : q.bgPatLo = p.bgPatLo
  bgPatHi : q.bgPatHi = p.bgPatHi
  bgAtLo : q.bgAtLo = p.bgAtLo
  bgAtHi : q.bgAtHi = p.bgAtHi
  framebuffer : q.framebuffer = p.framebuffer
  nmiPending : q.nmiPending = p.nmiPending

theorem SameBackground.refl (p : Ppu) : SameBackground p p :=
  ⟨rfl, rfl, rfl, rfl, rfl, rfl, rfl, rfl, rfl, rfl, rfl⟩

theorem SameBackground.trans {p q r : Ppu} (h : SameBackground p q) (h' : SameBackground q r) :
    SameBackground p r :=
  ⟨h'.v.trans h.v, h'.ntLatch.trans h.ntLatch, h'.atLatch.trans h.atLatch,
    h'.patLoLatch.trans h.patLoLatch, h'.patHiLatch.trans h.patHiLatch, h'.bgPatLo.trans h.bgPatLo,
    h'.bgPatHi.trans h.bgPatHi, h'.bgAtLo.trans h.bgAtLo, h'.bgAtHi.trans h.bgAtHi,
    h'.framebuffer.trans h.framebuffer, h'.nmiPending.trans h.nmiPending⟩

theorem evaluateEntry_frame (s k : Nat) (p : Ppu) :
    SameRegisters p (p.evaluateEntry s k) ∧ SameBackground p (p.evaluateEntry s k) ∧
    (p.evaluateEntry s k).sprites = p.sprites := by
  unfold Ppu.evaluateEntry
  repeat' split
  all_goals exact ⟨⟨rfl, rfl, rfl, rfl, rfl, rfl, rfl, rfl, rfl, rfl, rfl, rfl, rfl⟩,
    ⟨rfl, rfl, rfl, rfl, rfl, rfl, rfl, rfl, rfl, rfl, rfl⟩, rfl⟩

theorem scanEntries_frame (s k : Nat) (p : Ppu) :
    SameRegisters p (p.scanEntries s k) ∧ SameBackground p (p.scanEntries s k) ∧
    (p.scanEntries s k).sprites = p.sprites := by
  induction k with
  | zero => exact ⟨.refl p, .refl p, rfl⟩
  | succ k ih =>
    have h := evaluateEntry_frame s k (p.scanEntries s k)
    exact ⟨ih.1.trans h.1, ih.2.1.trans h.2.1, h.2.2.trans ih.2.2⟩

/-- The sprite fetches change the sprite units only. -/
theorem fetchSprites_eq (env : PpuEnv) (s n : Nat) (p : Ppu) :
    p.fetchSprites env s n = { p with sprites := (p.fetchSprites env s n).sprites } := by
  induction n with
  | zero => rfl
  | succ n ih =>
    rw [Ppu.fetchSprites, ih]
    rfl

theorem fetchSprites_frame (env : PpuEnv) (s n : Nat) (p : Ppu) :
    SameRegisters p (p.fetchSprites env s n) ∧ SameBackground p (p.fetchSprites env s n) := by
  rw [fetchSprites_eq]
  exact ⟨⟨rfl, rfl, rfl, rfl, rfl, rfl, rfl, rfl, rfl, rfl, rfl, rfl, rfl⟩,
    ⟨rfl, rfl, rfl, rfl, rfl, rfl, rfl, rfl, rfl, rfl, rfl⟩⟩

theorem evaluateSprites_frame (env : PpuEnv) (s : Nat) (p : Ppu) :
    SameRegisters p (p.evaluateSprites env s) ∧ SameBackground p (p.evaluateSprites env s) := by
  simp only [Ppu.evaluateSprites]
  have h2 := scanEntries_frame s 64 ({ p with secondaryOam := secondaryOamCleared } : Ppu).clearSelection
  have h3 := fetchSprites_frame env s
    ((({ p with secondaryOam := secondaryOamCleared } : Ppu).clearSelection.scanEntries s 64)).spriteCount
    (({ p with secondaryOam := secondaryOamCleared } : Ppu).clearSelection.scanEntries s 64)
  have h1 : SameRegisters p ({ p with secondaryOam := secondaryOamCleared } : Ppu).clearSelection ∧
      SameBackground p ({ p with secondaryOam := secondaryOamCleared } : Ppu).clearSelection :=
    ⟨⟨rfl, rfl, rfl, rfl, rfl, rfl, rfl, rfl, rfl, rfl, rfl, rfl, rfl⟩,
      ⟨rfl, rfl, rfl, rfl, rfl, rfl, rfl, rfl, rfl, rfl, rfl⟩⟩
  exact ⟨(h1.1.trans h2.1).trans h3.1, (h1.2.trans h2.2.1).trans h3.2⟩

theorem spriteDot_frame (env : PpuEnv) (s : Int) (p : Ppu) :
    SameRegisters p (p.spriteDot env s) ∧ SameBackground p (p.spriteDot env s) := by
  unfold Ppu.spriteDot
  split
  · exact evaluateSprites_frame env _ p
  · exact ⟨⟨rfl, rfl, rfl, rfl, rfl, rfl, rfl, rfl, rfl, rfl, rfl, rfl, rfl⟩,
      ⟨rfl, rfl, rfl, rfl, rfl, rfl, rfl, rfl, rfl, rfl, rfl⟩⟩

/-! ## Pixel output -/

/-- A pixel changes `status` and one cell of the framebuffer (62_ppu.md R352). -/
theorem outputPixel_eq (s x : Nat) (p : Ppu) :
    p.outputPixel s x = { p with
      status := (p.outputPixel s x).status, framebuffer := (p.outputPixel s x).framebuffer } := rfl

theorem outputPixel_frame (s x : Nat) (p : Ppu) : SameRegisters p (p.outputPixel s x) :=
  ⟨rfl, rfl, rfl, rfl, rfl, rfl, rfl, rfl, rfl, rfl, rfl, rfl, rfl⟩

/-! ## One dot -/

theorem renderDot_frame (env : PpuEnv) (s : Int) (d : Nat) (p : Ppu) :
    SameRegisters p (p.renderDot env s d) ∧ (p.renderDot env s d).nmiPending = p.nmiPending := by
  simp only [Ppu.renderDot]
  have h1 : ∀ q, q = (if 0 ≤ s ∧ 1 ≤ d ∧ d ≤ 256 then p.outputPixel s.toNat (d - 1) else p) →
      SameRegisters p q ∧ q.nmiPending = p.nmiPending := by
    intro q hq
    split at hq <;> rw [hq]
    · exact ⟨outputPixel_frame _ _ p, rfl⟩
    · exact ⟨.refl p, rfl⟩
  generalize (if 0 ≤ s ∧ 1 ≤ d ∧ d ≤ 256 then p.outputPixel s.toNat (d - 1) else p) = p1 at h1 ⊢
  have h2 : ∀ q, q = (if p1.renderingEnabled then p1.renderFetch env s d else p1) →
      SameRegisters p1 q ∧ q.nmiPending = p1.nmiPending := by
    intro q hq
    split at hq <;> rw [hq]
    · exact ⟨(renderFetch_frame env s d p1).1, (renderFetch_frame env s d p1).2.nmiPending⟩
    · exact ⟨.refl p1, rfl⟩
  generalize (if p1.renderingEnabled then p1.renderFetch env s d else p1) = p2 at h2 ⊢
  have h := h1 p1 rfl
  have h' := h2 p2 rfl
  split
  · have h3 := spriteDot_frame env s p2
    exact ⟨(h.1.trans h'.1).trans h3.1, h3.2.nmiPending.trans (h'.2.trans h.2)⟩
  · exact ⟨h.1.trans h'.1, h'.2.trans h.2⟩

/-- The actions of a dot leave the registers the CPU writes, the counters, VRAM, palette and OAM alone. -/
theorem dotActions_frame (env : PpuEnv) (p : Ppu) : SameRegisters p (p.dotActions env) := by
  simp only [Ppu.dotActions]
  have hc : SameRegisters p p.clearFlags := ⟨rfl, rfl, rfl, rfl, rfl, rfl, rfl, rfl, rfl, rfl, rfl, rfl, rfl⟩
  have hv : ∀ q : Ppu, SameRegisters q q.startVBlank := fun q =>
    ⟨rfl, rfl, rfl, rfl, rfl, rfl, rfl, rfl, rfl, rfl, rfl, rfl, rfl⟩
  have h1 : SameRegisters p (if p.scanline = -1 ∧ p.dot = 1 then p.clearFlags else p) := by
    split
    · exact hc
    · exact .refl p
  generalize (if p.scanline = -1 ∧ p.dot = 1 then p.clearFlags else p) = p1 at h1 ⊢
  have h2 : SameRegisters p1 (if p.scanline = 241 ∧ p.dot = 1 then p1.startVBlank else p1) := by
    split
    · exact hv p1
    · exact .refl p1
  generalize (if p.scanline = 241 ∧ p.dot = 1 then p1.startVBlank else p1) = p2 at h2 ⊢
  split
  · exact (h1.trans h2).trans (renderDot_frame env _ _ p2).1
  · exact h1.trans h2

/-! ## The counters -/

/-- Advancing the counters moves the clock by one dot, in every position the counters can have. -/
theorem advanceCounters_clock (p : Ppu) : p.advanceCounters.clock = p.clock + 1 := by
  unfold Ppu.advanceCounters Ppu.clock dotsPerFrame
  split
  · split <;> simp <;> omega
  · simp; omega

/-- One tick moves the PPU's clock by one dot (62_ppu.md R330, R333). -/
theorem tick_clock (env : PpuEnv) (p : Ppu) : (p.tick env).clock = p.clock + 1 := by
  have h := dotActions_frame env p
  rw [Ppu.tick, advanceCounters_clock, Ppu.clock, Ppu.clock, h.frameCount, h.scanline, h.dot]

theorem ppuTicks_clock (n : Nat) (s : State) : (ppuTicks n s).ppu.clock = s.ppu.clock + n := by
  induction n generalizing s with
  | zero => simp [ppuTicks]
  | succ n ih =>
    rw [ppuTicks, ih]
    have h := tick_clock s.ppuEnv s.ppu
    simp only [ppuTick, State.setPpu]
    omega

/-- Ticks change the PPU only. -/
theorem ppuTicks_eq (n : Nat) (s : State) : ppuTicks n s = { s with ppu := (ppuTicks n s).ppu } := by
  induction n generalizing s with
  | zero => rfl
  | succ n ih => rw [ppuTicks, ih]; rfl

/-- Ticks compose. -/
theorem ppuTicks_add (m n : Nat) (s : State) : ppuTicks (m + n) s = ppuTicks n (ppuTicks m s) := by
  induction m generalizing s with
  | zero => simp [ppuTicks]
  | succ m ih => rw [Nat.succ_add, ppuTicks, ih]; rfl

/-! ## Which dots change what -/

/-- Advancing the counters changes nothing else. -/
theorem advanceCounters_frame (p : Ppu) :
    SameBackground p p.advanceCounters ∧ SameSprites p p.advanceCounters := by
  unfold Ppu.advanceCounters
  repeat' split
  all_goals exact ⟨⟨rfl, rfl, rfl, rfl, rfl, rfl, rfl, rfl, rfl, rfl, rfl⟩, ⟨rfl, rfl, rfl, rfl, rfl, rfl, rfl⟩⟩

/-- On the scanlines from 240 on only the start of VBlank acts (62_ppu.md R355). -/
theorem dotActions_idleLine (env : PpuEnv) {p : Ppu} (h : 240 ≤ p.scanline) :
    p.dotActions env = if p.scanline = 241 ∧ p.dot = 1 then p.startVBlank else p := by
  simp only [Ppu.dotActions]
  rw [if_neg (by omega : ¬ p.scanline ≤ 239), if_neg (by omega : ¬ (p.scanline = -1 ∧ p.dot = 1))]

/-- On a render line the flags are cleared at (-1, 1), then the line's own work is done (62_ppu.md R330). -/
theorem dotActions_renderLine (env : PpuEnv) {p : Ppu} (h : p.scanline ≤ 239) :
    p.dotActions env =
      (if p.scanline = -1 ∧ p.dot = 1 then p.clearFlags else p).renderDot env p.scanline p.dot := by
  simp only [Ppu.dotActions]
  rw [if_pos h, if_neg (by omega : ¬ (p.scanline = 241 ∧ p.dot = 1))]

/-- Outside the fetch dots the background step changes `v` at most, and that at its copy dots only
(62_ppu.md R330, R355). -/
theorem renderFetch_noFetch (env : PpuEnv) (s : Int) {d : Nat} (p : Ppu)
    (h : ¬ ((1 ≤ d ∧ d ≤ 256) ∨ (321 ≤ d ∧ d ≤ 336))) :
    p.renderFetch env s d = { p with v := (p.renderFetch env s d).v } ∧
    (d ≠ 257 → ¬ (s = -1 ∧ 280 ≤ d ∧ d ≤ 304) → p.renderFetch env s d = p) := by
  simp only [Ppu.renderFetch, if_neg h, if_neg (by omega : ¬ d = 256)]
  by_cases h2 : s = -1 ∧ 280 ≤ d ∧ d ≤ 304
  · rw [if_pos h2, if_neg (by omega : ¬ d = 257)]
    exact ⟨rfl, fun _ h => absurd h2 h⟩
  · rw [if_neg h2]
    split
    · exact ⟨rfl, fun h1 => absurd ‹_› h1⟩
    · exact ⟨rfl, fun _ _ => rfl⟩

/-- Away from dot 257 a render line outputs its pixel and does the background step (62_ppu.md R330). -/
theorem renderDot_ne_257 (env : PpuEnv) (s : Int) {d : Nat} (p : Ppu) (h : d ≠ 257) :
    p.renderDot env s d =
      (let p1 := if 0 ≤ s ∧ 1 ≤ d ∧ d ≤ 256 then p.outputPixel s.toNat (d - 1) else p
       if p.renderingEnabled then p1.renderFetch env s d else p1) := by
  simp only [Ppu.renderDot, if_neg h]
  split <;> rfl

/-- At dot 257 a render line copies the horizontal scroll and does the sprite work (62_ppu.md R330). -/
theorem renderDot_257 (env : PpuEnv) (s : Int) (p : Ppu) :
    p.renderDot env s 257 =
      (if p.renderingEnabled then { p with v := copyHorizontal p.v p.t } else p).spriteDot env s := by
  simp only [Ppu.renderDot, if_neg (by omega : ¬ (0 ≤ s ∧ 1 ≤ 257 ∧ 257 ≤ 256)), if_true, Ppu.renderFetch,
    if_neg (by decide : ¬ ((1 ≤ 257 ∧ 257 ≤ 256) ∨ (321 ≤ 257 ∧ 257 ≤ 336))), if_neg (by decide : ¬ 257 = 256),
    if_neg (by omega : ¬ (s = -1 ∧ 280 ≤ 257 ∧ 257 ≤ 304))]

/-- Away from dot 257 a render line leaves the sprites and the secondary OAM alone. -/
theorem renderDot_sprites (env : PpuEnv) (s : Int) {d : Nat} (p : Ppu) (h : d ≠ 257) :
    let q := p.renderDot env s d
    q.spriteCount = p.spriteCount ∧ q.spriteZeroSelected = p.spriteZeroSelected ∧
    q.secondaryOam = p.secondaryOam ∧ q.sprites = p.sprites := by
  simp only [renderDot_ne_257 env s p h]
  have h1 : ∀ q : Ppu, (let r := q.renderFetch env s d
      r.spriteCount = q.spriteCount ∧ r.spriteZeroSelected = q.spriteZeroSelected ∧
      r.secondaryOam = q.secondaryOam ∧ r.sprites = q.sprites) := fun q =>
    have hq := (renderFetch_frame env s d q).2
    ⟨hq.spriteCount, hq.spriteZeroSelected, hq.secondaryOam, hq.sprites⟩
  split <;> split <;> first | exact h1 _ | exact ⟨rfl, rfl, rfl, rfl⟩

/-- Outside the visible dots a render line leaves the framebuffer alone, and away from dot 257 `status`. -/
theorem renderDot_noPixel (env : PpuEnv) (s : Int) {d : Nat} (p : Ppu) (h : ¬ (0 ≤ s ∧ 1 ≤ d ∧ d ≤ 256)) :
    (p.renderDot env s d).framebuffer = p.framebuffer ∧
    (d ≠ 257 → (p.renderDot env s d).status = p.status) := by
  by_cases hd : d = 257
  · subst hd
    rw [renderDot_257]
    refine ⟨?_, fun h => absurd rfl h⟩
    rw [(spriteDot_frame env s _).2.framebuffer]
    split <;> rfl
  · simp only [renderDot_ne_257 env s p hd, if_neg h]
    split
    · have hq := (renderFetch_frame env s d p).2
      exact ⟨hq.framebuffer, fun _ => hq.status⟩
    · exact ⟨rfl, fun _ => rfl⟩

/-- Where the background step does not run a render line leaves the background pipeline alone. -/
theorem renderDot_noFetch (env : PpuEnv) (s : Int) {d : Nat} (p : Ppu)
    (h : p.renderingEnabled = false ∨ ¬ ((1 ≤ d ∧ d ≤ 256) ∨ (321 ≤ d ∧ d ≤ 336))) :
    SameBackground { p with v := (p.renderDot env s d).v, framebuffer := (p.renderDot env s d).framebuffer }
      (p.renderDot env s d) ∧
    (p.renderingEnabled = false ∨ (d ≠ 257 ∧ ¬ (s = -1 ∧ 280 ≤ d ∧ d ≤ 304)) →
      (p.renderDot env s d).v = p.v) := by
  by_cases hd : d = 257
  · subst hd
    rw [renderDot_257]
    have hq := (spriteDot_frame env s (if p.renderingEnabled then { p with v := copyHorizontal p.v p.t } else p)).2
    generalize Ppu.spriteDot env s _ = q at hq ⊢
    refine ⟨?_, fun hv => ?_⟩
    · cases hr : p.renderingEnabled <;> simp only [hr, if_true, if_false, Bool.false_eq_true] at hq <;>
        exact ⟨rfl, hq.ntLatch, hq.atLatch, hq.patLoLatch, hq.patHiLatch, hq.bgPatLo, hq.bgPatHi, hq.bgAtLo,
          hq.bgAtHi, rfl, hq.nmiPending⟩
    · rcases hv with hv | hv
      · simpa [hv] using hq.v
      · exact absurd rfl hv.1
  · simp only [renderDot_ne_257 env s p hd]
    have hp : SameBackground { p with framebuffer := (if 0 ≤ s ∧ 1 ≤ d ∧ d ≤ 256 then p.outputPixel s.toNat (d - 1)
          else p).framebuffer } (if 0 ≤ s ∧ 1 ≤ d ∧ d ≤ 256 then p.outputPixel s.toNat (d - 1) else p) := by
      split <;> exact ⟨rfl, rfl, rfl, rfl, rfl, rfl, rfl, rfl, rfl, rfl, rfl⟩
    generalize (if 0 ≤ s ∧ 1 ≤ d ∧ d ≤ 256 then p.outputPixel s.toNat (d - 1) else p) = p1 at hp ⊢
    cases hr : p.renderingEnabled
    · exact ⟨⟨rfl, hp.ntLatch, hp.atLatch, hp.patLoLatch, hp.patHiLatch, hp.bgPatLo, hp.bgPatHi, hp.bgAtLo,
        hp.bgAtHi, rfl, hp.nmiPending⟩, fun _ => hp.v⟩
    · have hn := h.resolve_left (by simp [hr])
      obtain ⟨h1, h2⟩ := renderFetch_noFetch env s p1 hn
      refine ⟨?_, fun hv => ?_⟩
      · rw [if_pos rfl, h1]
        exact ⟨rfl, hp.ntLatch, hp.atLatch, hp.patLoLatch, hp.patHiLatch, hp.bgPatLo, hp.bgPatHi, hp.bgAtLo,
          hp.bgAtHi, rfl, hp.nmiPending⟩
      · have hv' := hv.resolve_left (by simp)
        rw [if_pos rfl, h2 hv'.1 hv'.2]
        exact hp.v

/-- Away from a visible line with rendering enabled the sprite work is the clearing (62_ppu.md R348). -/
theorem spriteDot_clear (env : PpuEnv) {s : Int} {p : Ppu} (h : ¬ (p.renderingEnabled = true ∧ 0 ≤ s)) :
    p.spriteDot env s = p.clearSelection := by
  unfold Ppu.spriteDot
  rw [if_neg (by simpa using h)]

/-! Sprite evaluation does not look at `v`. -/

theorem scanEntries_withV (s k : Nat) (p : Ppu) (w : VramReg) :
    ({ p with v := w }).scanEntries s k = { p.scanEntries s k with v := w } := by
  induction k with
  | zero => rfl
  | succ k ih =>
    simp only [Ppu.scanEntries, ih]
    generalize p.scanEntries s k = r
    have hm : ({ r with v := w }).entryMatches s k = r.entryMatches s k := rfl
    unfold Ppu.evaluateEntry
    rw [hm]
    split
    · dsimp only
      split <;> rfl
    · rfl

theorem fetchSprites_withV (env : PpuEnv) (s n : Nat) (p : Ppu) (w : VramReg) :
    ({ p with v := w }).fetchSprites env s n = { p.fetchSprites env s n with v := w } := by
  induction n with
  | zero => rfl
  | succ n ih => simp only [Ppu.fetchSprites, ih]; rfl

theorem evaluateSprites_withV (env : PpuEnv) (s : Nat) (p : Ppu) (w : VramReg) :
    ({ p with v := w }).evaluateSprites env s = { p.evaluateSprites env s with v := w } := by
  simp only [Ppu.evaluateSprites]
  have h := scanEntries_withV s 64 ({ p with secondaryOam := secondaryOamCleared } : Ppu).clearSelection w
  have h' : ({ ({ p with v := w } : Ppu) with secondaryOam := secondaryOamCleared } : Ppu).clearSelection =
    { ({ p with secondaryOam := secondaryOamCleared } : Ppu).clearSelection with v := w } := rfl
  rw [h', h, fetchSprites_withV]

/-- Where it runs, the sprite work is the evaluation of the PPU as it was before the dot
(62_ppu.md R330, R345). -/
theorem renderDot_evaluates (env : PpuEnv) {s : Int} {p : Ppu} (h : p.renderingEnabled = true) (hs : 0 ≤ s) :
    p.renderDot env s 257 = { p.evaluateSprites env s.toNat with v := copyHorizontal p.v p.t } := by
  have h' : ({ p with v := copyHorizontal p.v p.t } : Ppu).renderingEnabled = true := h
  rw [renderDot_257, if_pos h, Ppu.spriteDot, if_pos (by simp [h', hs]), evaluateSprites_withV]

/-! ## The invariant -/

theorem evaluateEntry_inv (s k : Nat) {p : Ppu} (h : p.Inv) : (p.evaluateEntry s k).Inv := by
  unfold Ppu.evaluateEntry
  split
  · split
    · rename_i hn
      have ok : ∀ {m : Memory} (j : Nat) (v : Byte), j < 4 → m.ok Config.secondaryOamSize →
          (m.write (4 * p.spriteCount + j) v).ok Config.secondaryOamSize := by
        intro m j v hj hm
        refine Memory.ok_write hm ?_ v
        have : Config.secondaryOamSize = 32 := rfl
        omega
      exact { h with
        spriteCount := hn
        secondaryOam := ok 3 _ (by decide) (ok 2 _ (by decide) (ok 1 _ (by decide)
          (ok 0 _ (by decide) h.secondaryOam))) }
    · exact { h with status := or_and_zero h.status (by decide) }
  · exact h

theorem scanEntries_inv (s k : Nat) {p : Ppu} (h : p.Inv) : (p.scanEntries s k).Inv := by
  induction k with
  | zero => exact h
  | succ k ih => exact evaluateEntry_inv s k ih

theorem evaluateSprites_inv (env : PpuEnv) (s : Nat) {p : Ppu} (h : p.Inv) : (p.evaluateSprites env s).Inv := by
  simp only [Ppu.evaluateSprites]
  have h1 : ({ p with secondaryOam := secondaryOamCleared } : Ppu).clearSelection.Inv :=
    { h with
      spriteCount := Nat.zero_le 8
      secondaryOam := Memory.ok_ofBytes (by rw [List.length_replicate]; decide) }
  have h2 := scanEntries_inv s 64 h1
  generalize ({ p with secondaryOam := secondaryOamCleared } : Ppu).clearSelection.scanEntries s 64 = p2 at h2 ⊢
  rw [fetchSprites_eq]
  exact { h2 with }

theorem spriteDot_inv (env : PpuEnv) (s : Int) {p : Ppu} (h : p.Inv) : (p.spriteDot env s).Inv := by
  unfold Ppu.spriteDot
  split
  · exact evaluateSprites_inv env _ h
  · exact { h with spriteCount := Nat.zero_le 8 }

theorem outputPixel_inv {s x : Nat} {p : Ppu} (h : p.Inv) (hs : s < 240) (hx : x < 256) :
    (p.outputPixel s x).Inv := by
  refine { h with
    status := ?_
    framebuffer := Memory.ok_write h.framebuffer ?_ _
    framebufferSix := Memory.sixBit_write h.framebuffer.1 h.framebufferSix _ (h.paletteSix _) }
  · simp only [Ppu.outputPixel]
    split
    · exact or_and_zero h.status (by decide)
    · exact h.status
  · simp only [framebufferKey, Config.framebufferSize]; omega

theorem renderFetch_inv (env : PpuEnv) (s : Int) (d : Nat) {p : Ppu} (h : p.Inv) :
    (p.renderFetch env s d).Inv := by
  obtain ⟨hr, hs⟩ := renderFetch_frame env s d p
  exact
    { scanlineLow := hr.scanline ▸ h.scanlineLow, scanlineHigh := hr.scanline ▸ h.scanlineHigh
      dot := hr.dot ▸ h.dot, status := hs.status ▸ h.status, spriteCount := hs.spriteCount ▸ h.spriteCount
      vram := hr.vram ▸ h.vram, palette := hr.palette ▸ h.palette, paletteSix := hr.palette ▸ h.paletteSix
      oam := hr.oam ▸ h.oam, secondaryOam := hs.secondaryOam ▸ h.secondaryOam
      framebuffer := hs.framebuffer ▸ h.framebuffer, framebufferSix := hs.framebuffer ▸ h.framebufferSix }

theorem renderDot_inv (env : PpuEnv) {s : Int} {d : Nat} {p : Ppu} (h : p.Inv) (hs : s ≤ 239) :
    (p.renderDot env s d).Inv := by
  simp only [Ppu.renderDot]
  have h1 : ∀ q, q = (if 0 ≤ s ∧ 1 ≤ d ∧ d ≤ 256 then p.outputPixel s.toNat (d - 1) else p) → q.Inv := by
    intro q hq
    split at hq <;> rw [hq]
    · exact outputPixel_inv h (by omega) (by omega)
    · exact h
  have h2 := h1 _ rfl
  generalize (if 0 ≤ s ∧ 1 ≤ d ∧ d ≤ 256 then p.outputPixel s.toNat (d - 1) else p) = p1 at h2 ⊢
  have h3 : (if p1.renderingEnabled then p1.renderFetch env s d else p1).Inv := by
    split
    · exact renderFetch_inv env s d h2
    · exact h2
  split
  · exact spriteDot_inv env s h3
  · exact h3

theorem dotActions_inv (env : PpuEnv) {p : Ppu} (h : p.Inv) : (p.dotActions env).Inv := by
  simp only [Ppu.dotActions]
  have h1 : (if p.scanline = -1 ∧ p.dot = 1 then p.clearFlags else p).Inv := by
    split
    · exact { h with status := and_and_zero h.status }
    · exact h
  generalize (if p.scanline = -1 ∧ p.dot = 1 then p.clearFlags else p) = p1 at h1 ⊢
  have h2 : (if p.scanline = 241 ∧ p.dot = 1 then p1.startVBlank else p1).Inv := by
    split
    · exact { h1 with status := or_and_zero h1.status (by decide) }
    · exact h1
  split
  · exact renderDot_inv env h2 (by omega)
  · exact h2

theorem advanceCounters_inv {p : Ppu} (h : p.Inv) : p.advanceCounters.Inv := by
  have := h.scanlineLow
  have := h.scanlineHigh
  have := h.dot
  unfold Ppu.advanceCounters
  split
  · split
    · exact { h with scanlineLow := by simp, scanlineHigh := by simp, dot := by simp }
    · exact { h with scanlineLow := by simp; omega, scanlineHigh := by simp; omega, dot := by simp }
  · exact { h with dot := by simp; omega }

/-- A tick keeps the invariant. -/
theorem tick_inv (env : PpuEnv) {p : Ppu} (h : p.Inv) : (p.tick env).Inv :=
  advanceCounters_inv (dotActions_inv env h)

theorem ppuTicks_inv (n : Nat) {s : State} (h : s.Inv) : (ppuTicks n s).Inv := by
  induction n generalizing s with
  | zero => exact h
  | succ n ih => exact ih { h with ppu := tick_inv _ h.ppu }

end Sys2Proof.Machine
end

