-- ==== Sys2Proof/Laws/Step.lean ====
section
/-! SUPPORT. What one step can do, said once, and what the reset state is. -/

namespace Sys2Proof.Machine

/-! ## Fetching -/

theorem fetchByte_reaches (s : State) : Reaches s (fetchByte s).2 := .trans (.read s.pc .refl) (Reaches.setPc _)

theorem fetchByte_cycles (s : State) : (fetchByte s).2.cycles = s.cycles := memRead_cycles s.pc s

/-- A fetch of an instruction is one to three byte fetches (30_encoding.md R101, R115). -/
theorem fetchInstr_reaches (s : State) :
    Reaches s (fetchInstr s).2 ∧ (fetchInstr s).2.cycles = s.cycles := by
  simp only [fetchInstr]
  split
  · exact ⟨fetchByte_reaches s, fetchByte_cycles s⟩
  · exact ⟨(fetchByte_reaches s).trans (fetchByte_reaches _),
      (fetchByte_cycles _).trans (fetchByte_cycles s)⟩
  · exact ⟨((fetchByte_reaches s).trans (fetchByte_reaches _)).trans (fetchByte_reaches _),
      ((fetchByte_cycles _).trans (fetchByte_cycles _)).trans (fetchByte_cycles s)⟩

/-! ## Interrupts -/

/-- The request of an NMI is cleared when it is taken. -/
def withoutNmi (s : State) : State := { s with ppu := { s.ppu with nmiPending := false } }

/-- An interrupt sequence takes 7 cycles, from the state itself or with the NMI request cleared
(60_exceptions.md R255 to R257, R260). -/
theorem takePending_some {s u : State} (h : takePending s = some u) :
    (s.ppu.nmiPending = true ∧ u = nmi (withoutNmi s) ∨
      s.ppu.nmiPending = false ∧ s.irqLine = true ∧ getFlag .I s.p = false ∧ u = irq s) ∧
    u.cycles = s.cycles + 7 := by
  unfold takePending at h
  split at h
  · rename_i hn
    cases h
    refine ⟨.inl ⟨hn, rfl⟩, ?_⟩
    rw [nmi_eq]; rfl
  · rename_i hn
    split at h
    · rename_i hq
      cases h
      simp only [Bool.and_eq_true, Bool.not_eq_true'] at hq
      exact ⟨.inr ⟨by simpa using hn, hq.1, hq.2, rfl⟩, by rw [irq_eq s hq.2]⟩
    · cases h

/-- When no interrupt sequence comes first. -/
theorem takePending_none (s : State) :
    takePending s = none ↔ s.ppu.nmiPending = false ∧ (s.irqLine = false ∨ getFlag .I s.p = true) := by
  unfold takePending
  cases hn : s.ppu.nmiPending <;> cases hq : s.irqLine <;> cases hi : getFlag .I s.p <;> simp

/-! ## One step -/

/-- A step that completes took an interrupt sequence or ran one instruction, at least two cycles long,
and then advanced the PPU three dots a cycle (60_exceptions.md R270). -/
theorem step_next {s t : State} (h : step s = .next t) :
    ∃ u, (takePending s = some u ∨
        (takePending s = none ∧ exec (fetchInstr s).1 (fetchInstr s).2 = .next u)) ∧
      s.cycles + 2 ≤ u.cycles ∧ t = ppuTicks (3 * (u.cycles - s.cycles)) u := by
  unfold step stepInstruction at h
  cases hp : takePending s with
  | some u =>
    rw [hp] at h
    cases h
    exact ⟨u, .inl rfl, by rw [(takePending_some hp).2]; omega, rfl⟩
  | none =>
    rw [hp] at h
    simp only [] at h
    cases he : exec (fetchInstr s).1 (fetchInstr s).2 with
    | next u =>
      rw [he] at h
      cases h
      have h2 := (exec_next he).2
      rw [(fetchInstr_reaches s).2] at h2
      exact ⟨u, .inr ⟨rfl, rfl⟩, h2, rfl⟩
    | fault r => rw [he] at h; cases h
    | refused r => rw [he] at h; cases h

/-- The instruction or the sequence of a step reaches its end by actions of an instruction, from the
state itself or with the NMI request cleared. -/
theorem step_reaches {s u : State}
    (h : takePending s = some u ∨
      (takePending s = none ∧ exec (fetchInstr s).1 (fetchInstr s).2 = .next u)) :
    Reaches s u ∨ Reaches (withoutNmi s) u := by
  rcases h with h | ⟨_, h⟩
  · rcases (takePending_some h).1 with ⟨_, rfl⟩ | ⟨_, _, _, rfl⟩
    · exact .inr (nmi_reaches _)
    · exact .inl (irq_reaches _)
  · exact .inl ((fetchInstr_reaches s).1.trans (exec_next h).1)

/-! ## Reset -/

/-- The reset state is power-on followed by one soft reset, with every parameter at its default and the
blank cartridge (70_reset_and_hazards.md R380). -/
theorem reset_is_softReset_of_powerOn : State.reset = powerOn Cartridge.blank [] {} := by decide

end Sys2Proof.Machine
end

