-- ==== Sys2Proof/Laws/Bytes.lean ====
section
/-! SUPPORT. The byte an address reads as: when it is one of the memories, it depends on that memory
alone, and placing a byte or storing one changes it as expected. -/

namespace Sys2Proof.Machine

/-! ## Plain memory -/

theorem isMemoryAddr_cases {addr : Word} (h : isMemoryAddr addr = true) :
    addr.toNat < 0x2000 ∨ 0x6000 ≤ addr.toNat := by
  simpa [isMemoryAddr] using h

theorem isMemoryAddr_of_ram {addr : Word} (h : addr.toNat < 0x2000) : isMemoryAddr addr = true := by
  simp [isMemoryAddr]; left; omega

/-- A read of plain memory gives its byte and has no side effect (20_memory.md R69). -/
theorem memRead_memory {addr : Word} (s : State) (h : isMemoryAddr addr = true) :
    memRead addr s = (s.byteAt addr, s) := by
  have hq : (memRead addr s).2 = s := by
    apply memRead_quiet
    rcases isMemoryAddr_cases h with h | h
    · exact .inl h
    · refine .inr ⟨by omega, ?_, ?_⟩ <;> (rintro rfl; simp at h)
  exact Prod.ext rfl hq

/-- Work RAM when the address is there, else the byte of any state with the same cartridge memories. -/
theorem byteAt_split {s t : State} (hp : t.prgRam = s.prgRam) (hc : t.cart = s.cart) {addr : Word}
    (h : isMemoryAddr addr = true) :
    t.byteAt addr = if addr.toNat < 0x2000 then t.ram.read (addr.toNat % 0x0800) else s.byteAt addr := by
  unfold State.byteAt
  split
  · rename_i hr
    rw [memRead_ram t hr]
  · rcases isMemoryAddr_cases h with hr | hr
    · omega
    · by_cases h' : addr.toNat < 0x8000
      · rw [memRead_prgRam s hr h', memRead_prgRam t hr h', hp]
      · rw [memRead_rom s (by omega), memRead_rom t (by omega), hc]

/-- Equal memories read alike. -/
theorem byteAt_congr {s t : State} (hr : t.ram = s.ram) (hp : t.prgRam = s.prgRam) (hc : t.cart = s.cart)
    {addr : Word} (h : isMemoryAddr addr = true) : t.byteAt addr = s.byteAt addr := by
  rw [byteAt_split hp hc h]
  split
  · rename_i hlt
    unfold State.byteAt
    rw [memRead_ram s hlt, hr]
  · rfl

theorem byteAt_readsOnly {s u : State} (h : ReadsOnly s u) {addr : Word} (ha : isMemoryAddr addr = true) :
    u.byteAt addr = s.byteAt addr := by
  obtain ⟨_, _, _, _, _, _, _, hr, hp, _, hc, _⟩ := h.same
  exact byteAt_congr hr hp hc ha

theorem byteAt_rom (s : State) {addr : Word} (h : 0x8000 ≤ addr.toNat) : s.byteAt addr = s.cart.cpuRead addr := by
  unfold State.byteAt
  rw [memRead_rom s h]

theorem stackAddr_ram (sp : Byte) : (stackAddr sp).toNat < 0x2000 := by
  have := sp.isLt
  rw [stackAddr_toNat]; omega

theorem byteAt_stack (s : State) (sp : Byte) : s.byteAt (stackAddr sp) = s.ram.read (0x0100 + sp.toNat) := by
  have := sp.isLt
  unfold State.byteAt
  rw [memRead_ram s (stackAddr_ram sp), stackAddr_toNat, Nat.mod_eq_of_lt (by omega)]

/-- A bus read does not look at `PC`. -/
theorem memRead_withPc (addr w : Word) (s : State) :
    memRead addr { s with pc := w } = ((memRead addr s).1, { (memRead addr s).2 with pc := w }) := by
  simp only [memRead]
  split
  · rfl
  split
  · unfold ppuRegRead
    split <;> rfl
  repeat' split
  all_goals rfl

/-- A fetch is a bus read at `PC`, and `PC` moves by one (30_encoding.md R101). -/
theorem fetchByte_eq (s : State) :
    fetchByte s = ((memRead s.pc s).1, { (memRead s.pc s).2 with pc := s.pc + 1#16 }) := by
  have := (memRead_readsOnly s.pc s).same
  simp only [fetchByte, State.setPc, this.2.2.2.2.2.1]

/-! ## Stores -/

theorem storedAt_memory {ea addr : Word} (h : storedAt ea addr) :
    isMemoryAddr addr = true ∧ isMemoryAddr ea = true := by
  unfold storedAt at h
  simp only [isMemoryAddr, Bool.or_eq_true, decide_eq_true_eq]
  rcases h with ⟨h1, h2, _⟩ | ⟨h1, _, rfl⟩
  · exact ⟨.inl h2, .inl h1⟩
  · exact ⟨.inr h1, .inr h1⟩

theorem storedAt_stack {sp : Byte} {addr : Word} :
    storedAt (stackAddr sp) addr ↔ addr.toNat < 0x2000 ∧ 0x0100 + sp.toNat = addr.toNat % 0x0800 := by
  have := sp.isLt
  unfold storedAt
  rw [stackAddr_toNat]
  constructor
  · rintro (⟨_, h2, h3⟩ | ⟨h1, _, _⟩)
    · exact ⟨h2, by omega⟩
    · omega
  · rintro ⟨h1, h2⟩
    exact .inl ⟨by omega, h1, by omega⟩

/-- After a bus write a byte of memory reads as the value written when the store lands there, else as
before (20_memory.md R53). -/
theorem byteAt_memWrite {s : State} (hi : s.Inv) (ea : Word) (v : Byte) {addr : Word}
    (ha : isMemoryAddr addr = true) :
    (storedAt ea addr → (memWrite ea v s).byteAt addr = v) ∧
    (¬ storedAt ea addr → (memWrite ea v s).byteAt addr = s.byteAt addr) := by
  obtain ⟨_, _, _, _, _, _, hb⟩ := memWrite_busOnly ea v s
  by_cases c1 : ea.toNat < 0x2000
  · rw [memWrite_ram v s c1, byteAt_split (s := s) (t := s.setRam (s.ram.write (ea.toNat % 0x0800) v)) rfl rfl ha]
    simp only [State.setRam, storedAt]
    rw [Memory.read_write hi.ram.1]
    refine ⟨fun h => ?_, fun h => ?_⟩
    · rcases h with ⟨_, h2, h3⟩ | ⟨h1, _, _⟩
      · rw [if_pos h2, if_pos h3]
      · omega
    · split
      · rename_i hr
        rw [if_neg fun e => h (.inl ⟨c1, hr, e⟩), State.byteAt, memRead_ram s hr]
      · rfl
  by_cases c2 : 0x6000 ≤ ea.toNat ∧ ea.toNat < 0x8000
  · rw [memWrite_prgRam v s c2.1 c2.2]
    refine ⟨fun h => ?_, fun h => ?_⟩
    · rcases h with ⟨h1, _, _⟩ | ⟨h1, h2, rfl⟩
      · omega
      · unfold State.byteAt
        rw [memRead_prgRam _ h1 h2]
        simp only [State.setPrgRam]
        rw [Memory.read_write hi.prgRam.1, if_pos rfl]
    · unfold State.byteAt
      rcases isMemoryAddr_cases ha with hr | hr
      · rw [memRead_ram _ hr, memRead_ram _ hr]; rfl
      by_cases h' : addr.toNat < 0x8000
      · rw [memRead_prgRam _ hr h', memRead_prgRam _ hr h']
        simp only [State.setPrgRam]
        rw [Memory.read_write hi.prgRam.1, if_neg]
        exact fun e => h (.inr ⟨c2.1, c2.2, BitVec.eq_of_toNat_eq (by omega)⟩)
      · rw [memRead_rom _ (by omega), memRead_rom _ (by omega)]; rfl
  · have hd := memWrite_device_rams (addr := ea) v s (by omega) (by omega)
    refine ⟨fun h => ?_, fun _ => byteAt_congr hd.1 hd.2 (by rw [hb]) ha⟩
    rcases h with ⟨h1, _, _⟩ | ⟨h1, h2, _⟩
    · exact absurd h1 c1
    · exact absurd ⟨h1, h2⟩ c2

/-! ## Placing a byte (log entry 7) -/

theorem placeByte_inv {s : State} (hi : s.Inv) (addr : Word) (v : Byte) : (placeByte addr v s).Inv := by
  simp only [placeByte]
  split
  · exact { hi with ram := Memory.ok_write hi.ram (Nat.mod_lt _ (by decide)) v }
  split
  · exact hi
  split
  · exact { hi with prgRam := Memory.ok_write hi.prgRam (by simp [Config.prgRamSize]; omega) v }
  · exact { hi with cart := { hi.cart with prgRom := Memory.ok_write hi.cart.prgRom (prgIndex_lt hi.cart addr) v } }

/-- Placing a byte touches work RAM, cartridge RAM or PRG ROM only. -/
theorem placeByte_frame (addr : Word) (v : Byte) (s : State) :
    ∃ r p c, placeByte addr v s = { s with ram := r, prgRam := p, cart := c } := by
  simp only [placeByte]
  split
  · exact ⟨_, s.prgRam, s.cart, rfl⟩
  split
  · exact ⟨s.ram, s.prgRam, s.cart, rfl⟩
  split
  · exact ⟨s.ram, _, s.cart, rfl⟩
  · exact ⟨s.ram, s.prgRam, _, rfl⟩

end Sys2Proof.Machine
end

