-- ==== Sys2Proof/Laws/Decode.lean ====
section
/-! SUPPORT. Decoding by the form of the opcode's row. -/

namespace Sys2Proof

/-- An operand word is made of its two bytes, low byte first (30_encoding.md R116). -/
theorem operand16_operandLo_operandHi (w : Word) : operand16 (operandLo w) (operandHi w) = w := by
  apply BitVec.eq_of_toNat_eq
  have := w.isLt
  simp only [operand16, operandLo, operandHi, BitVec.toNat_append, BitVec.extractLsb'_toNat]
  rw [← Nat.shiftLeft_add_eq_or_of_lt (by omega), Nat.shiftLeft_eq, Nat.shiftRight_eq_div_pow]
  omega

theorem operandLo_operand16 (lo hi : Byte) : operandLo (operand16 lo hi) = lo := by
  apply BitVec.eq_of_toNat_eq
  have := lo.isLt
  simp only [operand16, operandLo, BitVec.toNat_append, BitVec.extractLsb'_toNat]
  rw [← Nat.shiftLeft_add_eq_or_of_lt (by omega), Nat.shiftLeft_eq]
  omega

theorem operandHi_operand16 (lo hi : Byte) : operandHi (operand16 lo hi) = hi := by
  apply BitVec.eq_of_toNat_eq
  have := lo.isLt
  have := hi.isLt
  simp only [operand16, operandHi, BitVec.toNat_append, BitVec.extractLsb'_toNat]
  rw [← Nat.shiftLeft_add_eq_or_of_lt (by omega), Nat.shiftLeft_eq, Nat.shiftRight_eq_div_pow]
  omega

/-- A row of format F1 takes no byte after the opcode. -/
theorem decode_f1 {op : Byte} {i : Instr} (h : opcodeForm op = .f1 i) (rest : List Byte) :
    decode (op :: rest) = .ok i rest := by
  simp only [decode, h]

/-- A row of format F2 takes one byte. -/
theorem decode_f2 {op : Byte} {build : Byte → Instr} (h : opcodeForm op = .f2 build) (b : Byte)
    (rest : List Byte) : decode (op :: b :: rest) = .ok (build b) rest := by
  simp only [decode, h]

/-- A row of format F3 takes two bytes, low byte first. -/
theorem decode_f3 {op : Byte} {build : Word → Instr} (h : opcodeForm op = .f3 build) (lo hi : Byte)
    (rest : List Byte) : decode (op :: lo :: hi :: rest) = .ok (build (operand16 lo hi)) rest := by
  simp only [decode, h]

end Sys2Proof
end

