-- ==== Sys2Proof/Laws/Numbers.lean ====
section
/-! SUPPORT. The addresses that the rules write with masks and shifts, as numbers. -/

namespace Sys2Proof.Machine

/-- A concatenation as a number. -/
theorem toNat_append_eq {m n : Nat} (x : BitVec m) (y : BitVec n) : (x ++ y).toNat = x.toNat * 2 ^ n + y.toNat := by
  rw [BitVec.toNat_append, ← Nat.shiftLeft_add_eq_or_of_lt y.isLt, Nat.shiftLeft_eq]

theorem lt_fifteen {i : Nat} (h : i < 15) :
    i = 0 ∨ i = 1 ∨ i = 2 ∨ i = 3 ∨ i = 4 ∨ i = 5 ∨ i = 6 ∨ i = 7 ∨
      i = 8 ∨ i = 9 ∨ i = 10 ∨ i = 11 ∨ i = 12 ∨ i = 13 ∨ i = 14 := by
  omega

/-- A word from its two bytes, as a number written in 16 bits. -/
theorem wordOf_ofNat (lo hi : Byte) : wordOf lo hi = BitVec.ofNat 16 (hi.toNat * 256 + lo.toNat) := by
  have := lo.isLt
  have := hi.isLt
  apply BitVec.eq_of_toNat_eq
  rw [wordOf_toNat, BitVec.toNat_ofNat]
  omega

/-- The second pointer byte of JMP indirect stays in the page of the first (30_encoding.md R112). -/
theorem jumpPointerHi_ofNat (w : Word) :
    jumpPointerHi w = BitVec.ofNat 16 (w.toNat / 256 * 256 + (w.toNat + 1) % 256) := by
  have hi_part : ∀ v : Word, v &&& 0xFF00#16 = hiByte v ++ 0#8 := by
    intro v
    conv => lhs; rw [← wordOf_lo_hi v, wordOf, show (0xFF00#16) = 0xFF#8 ++ 0x00#8 from rfl, BitVec.and_append]
    rw [show (0xFF#8) = BitVec.allOnes 8 from rfl, BitVec.and_allOnes, BitVec.and_zero]
  have lo_part : ∀ v : Word, v &&& 0x00FF#16 = 0#8 ++ loByte v := by
    intro v
    conv => lhs; rw [← wordOf_lo_hi v, wordOf, show (0x00FF#16) = 0x00#8 ++ 0xFF#8 from rfl, BitVec.and_append]
    rw [show (0xFF#8) = BitVec.allOnes 8 from rfl, BitVec.and_allOnes, BitVec.and_zero]
  have e : (hiByte w ++ 0#8) ||| (0#8 ++ loByte (w + 1#16)) = wordOf (loByte (w + 1#16)) (hiByte w) := by
    rw [BitVec.or_append, BitVec.or_zero, BitVec.zero_or]; rfl
  have := w.isLt
  unfold jumpPointerHi
  rw [hi_part, lo_part, e, wordOf_ofNat, loByte_toNat, hiByte_toNat, BitVec.toNat_add]
  congr 1
  simp

/-! ## The PPU's fetch addresses -/

/-- The nametable fetch address (62_ppu.md R336). -/
theorem nametableAddr_toNat (v : VramReg) : (nametableAddr v).toNat = 0x2000 + v.toNat % 4096 := by
  have e : nametableAddr v = BitVec.cast (by decide) (2#2 ++ v.extractLsb' 0 12 : BitVec (2 + 12)) := by
    apply BitVec.eq_of_getLsbD_eq
    intro i hi
    simp only [nametableAddr, BitVec.getLsbD_cast, BitVec.getLsbD_append, BitVec.getLsbD_extractLsb',
      BitVec.getLsbD_or, BitVec.getLsbD_setWidth, BitVec.getLsbD_and]
    rcases lt_fifteen (i := i) (by omega) with
      rfl | rfl | rfl | rfl | rfl | rfl | rfl | rfl | rfl | rfl | rfl | rfl | rfl | rfl | rfl <;> simp
  rw [e, BitVec.toNat_cast, toNat_append_eq]
  simp [Nat.shiftRight_eq_div_pow]

/-- The attribute fetch address (62_ppu.md R337). -/
theorem attributeAddr_toNat (v : VramReg) :
    (attributeAddr v).toNat =
      0x23C0 + v.toNat / 1024 % 4 * 1024 + v.toNat / 32 % 32 / 4 * 8 + v.toNat % 32 / 4 := by
  have e : attributeAddr v = BitVec.cast (by decide)
      (2#2 ++ v.extractLsb' 10 2 ++ 15#4 ++ v.extractLsb' 7 3 ++ v.extractLsb' 2 3 : BitVec (2 + 2 + 4 + 3 + 3)) := by
    apply BitVec.eq_of_getLsbD_eq
    intro i hi
    simp only [attributeAddr, BitVec.getLsbD_cast, BitVec.getLsbD_append, BitVec.getLsbD_extractLsb',
      BitVec.getLsbD_or, BitVec.getLsbD_setWidth, BitVec.getLsbD_and]
    rcases lt_fifteen (i := i) (by omega) with
      rfl | rfl | rfl | rfl | rfl | rfl | rfl | rfl | rfl | rfl | rfl | rfl | rfl | rfl | rfl <;> simp
  rw [e, BitVec.toNat_cast]
  simp only [toNat_append_eq, BitVec.extractLsb'_toNat, Nat.shiftRight_eq_div_pow]
  simp
  omega

/-- The place of the tile's two attribute bits (62_ppu.md R337). -/
theorem attributeShift_eq (v : VramReg) :
    attributeShift v = v.toNat / 32 % 32 / 2 % 2 * 4 + v.toNat % 32 / 2 % 2 * 2 := by
  have e : ((v >>> 4) &&& 4#15) ||| (v &&& 2#15) = BitVec.cast (by decide)
      (0#12 ++ v.extractLsb' 6 1 ++ v.extractLsb' 1 1 ++ 0#1 : BitVec (12 + 1 + 1 + 1)) := by
    apply BitVec.eq_of_getLsbD_eq
    intro i hi
    simp only [BitVec.getLsbD_cast, BitVec.getLsbD_append, BitVec.getLsbD_extractLsb', BitVec.getLsbD_or,
      BitVec.getLsbD_and]
    rcases lt_fifteen hi with
      rfl | rfl | rfl | rfl | rfl | rfl | rfl | rfl | rfl | rfl | rfl | rfl | rfl | rfl | rfl <;> simp
  have h6 : v.toNat / 32 % 32 / 2 % 2 = v.toNat / 64 % 2 := by omega
  have h1 : v.toNat % 32 / 2 % 2 = v.toNat / 2 % 2 := by omega
  rw [attributeShift, e, BitVec.toNat_cast, h6, h1]
  simp only [toNat_append_eq, BitVec.extractLsb'_toNat, Nat.shiftRight_eq_div_pow]
  simp
  omega

theorem fineY_toNat (v : VramReg) : (fineY v).toNat = v.toNat / 4096 := by
  have := v.isLt
  simp only [fineY, BitVec.extractLsb'_toNat, Nat.shiftRight_eq_div_pow]
  omega

/-- A pattern row address (62_ppu.md R338, R347). -/
theorem patternAddr_toNat (half : Bool) (tile : Byte) {row : Nat} (hr : row < 8) :
    (patternAddr half tile row).toNat = (if half then 0x1000 else 0) + tile.toNat * 16 + row := by
  have er : BitVec.ofNat 14 row = (BitVec.ofNat 3 row).setWidth 14 := by
    apply BitVec.eq_of_toNat_eq
    simp
    omega
  have e : patternAddr half tile row = BitVec.cast (by decide)
      (0#1 ++ BitVec.ofBool half ++ tile ++ 0#1 ++ BitVec.ofNat 3 row : BitVec (1 + 1 + 8 + 1 + 3)) := by
    unfold patternAddr
    rw [er]
    generalize BitVec.ofNat 3 row = r
    apply BitVec.eq_of_getLsbD_eq
    intro i hi
    simp only [BitVec.getLsbD_cast, BitVec.getLsbD_append, BitVec.getLsbD_or, BitVec.getLsbD_setWidth,
      BitVec.getLsbD_shiftLeft]
    cases half <;>
    rcases lt_fifteen (i := i) (by omega) with
      rfl | rfl | rfl | rfl | rfl | rfl | rfl | rfl | rfl | rfl | rfl | rfl | rfl | rfl | rfl <;> simp
  rw [e, BitVec.toNat_cast]
  simp only [toNat_append_eq]
  cases half <;> simp <;> omega

/-! ## The cells of the PPU bus -/

theorem toNat_and_mask {n : Nat} (x : BitVec n) (k : Nat) (hk : k < n) :
    (x &&& BitVec.ofNat n (2 ^ k - 1)).toNat = x.toNat % 2 ^ k := by
  have h : 2 ^ k < 2 ^ n := Nat.pow_lt_pow_right (by decide) hk
  rw [BitVec.toNat_and, BitVec.toNat_ofNat, Nat.mod_eq_of_lt (Nat.lt_of_le_of_lt (Nat.sub_le _ _) h),
    Nat.and_two_pow_sub_one_eq_mod]

/-- The nametable cell in both mirrorings (62_ppu.md R312). -/
theorem ntIndex_vertical (a : PpuAddr) : ntIndex .vertical a = a.toNat % 2048 := by
  have e12 : (a &&& 0x0FFF#14).toNat = a.toNat % 4096 := toNat_and_mask a 12 (by decide)
  have e11 : ∀ x : PpuAddr, (x &&& 0x07FF#14).toNat = x.toNat % 2048 := fun x => toNat_and_mask x 11 (by decide)
  simp only [ntIndex, e11, e12]
  omega

theorem ntIndex_horizontal (a : PpuAddr) :
    ntIndex .horizontal a = a.toNat % 4096 / 2048 * 1024 + a.toNat % 1024 := by
  have e : (((a &&& 0x0FFF#14) >>> 1) &&& 0x0400#14) ||| ((a &&& 0x0FFF#14) &&& 0x03FF#14) =
      BitVec.cast (by decide) (0#3 ++ a.extractLsb' 11 1 ++ a.extractLsb' 0 10 : BitVec (3 + 1 + 10)) := by
    apply BitVec.eq_of_getLsbD_eq
    intro i hi
    simp only [BitVec.getLsbD_cast, BitVec.getLsbD_append, BitVec.getLsbD_extractLsb', BitVec.getLsbD_or,
      BitVec.getLsbD_and]
    rcases lt_fifteen (i := i) (by omega) with
      rfl | rfl | rfl | rfl | rfl | rfl | rfl | rfl | rfl | rfl | rfl | rfl | rfl | rfl | rfl <;> simp
  simp only [ntIndex]
  rw [e, BitVec.toNat_cast]
  simp only [toNat_append_eq, BitVec.extractLsb'_toNat, Nat.shiftRight_eq_div_pow]
  simp
  omega

/-- The palette cell (62_ppu.md R313). -/
theorem palIndex_eq (a : PpuAddr) :
    palIndex a = if 16 ≤ a.toNat % 32 ∧ a.toNat % 4 = 0 then a.toNat % 16 else a.toNat % 32 := by
  have all : ∀ n : Fin 32, palIndex (BitVec.ofNat 14 n.val) =
      if 16 ≤ n.val ∧ n.val % 4 = 0 then n.val % 16 else n.val := by decide
  have e : palIndex a = palIndex (BitVec.ofNat 14 (a.toNat % 32)) := by
    have h : a &&& 0x001F#14 = BitVec.ofNat 14 (a.toNat % 32) &&& 0x001F#14 := by
      have e5 : ∀ x : PpuAddr, (x &&& 0x001F#14).toNat = x.toNat % 32 := fun x => toNat_and_mask x 5 (by decide)
      apply BitVec.eq_of_toNat_eq
      rw [e5, e5, BitVec.toNat_ofNat]
      omega
    simp only [palIndex, h]
  rw [e, all ⟨a.toNat % 32, Nat.mod_lt _ (by decide)⟩]
  simp only []
  split <;> split <;> omega

end Sys2Proof.Machine
end

