-- ==== Sys2Proof/Laws/PerInstr.lean ====
section
/-! SUPPORT. One lemma per instruction: the table's row of its opcode byte builds it from its own bytes. -/

namespace Sys2Proof.Laws.Encoding

/-- The row that the first byte of `i` selects has the form of the bytes of `i` and builds `i` from its
operand (30_encoding.md R115, R116, R118). -/
def Statement (i : Instr) : Prop :=
  ∃ op, match opcodeForm op with
    | .f1 j => encode i = [op] ∧ j = i
    | .f2 build => ∃ b, encode i = [op, b] ∧ build b = i
    | .f3 build => ∃ w, encode i = [op, operandLo w, operandHi w] ∧ build w = i

theorem ldaIndX (b : Byte) : Statement (.ldaIndX b) := ⟨0xA1#8, b, rfl, rfl⟩
theorem ldaZp (b : Byte) : Statement (.ldaZp b) := ⟨0xA5#8, b, rfl, rfl⟩
theorem ldaImm (b : Byte) : Statement (.ldaImm b) := ⟨0xA9#8, b, rfl, rfl⟩
theorem ldaAbs (w : Word) : Statement (.ldaAbs w) := ⟨0xAD#8, w, rfl, rfl⟩
theorem ldaIndY (b : Byte) : Statement (.ldaIndY b) := ⟨0xB1#8, b, rfl, rfl⟩
theorem ldaZpX (b : Byte) : Statement (.ldaZpX b) := ⟨0xB5#8, b, rfl, rfl⟩
theorem ldaAbsY (w : Word) : Statement (.ldaAbsY w) := ⟨0xB9#8, w, rfl, rfl⟩
theorem ldaAbsX (w : Word) : Statement (.ldaAbsX w) := ⟨0xBD#8, w, rfl, rfl⟩
theorem ldxImm (b : Byte) : Statement (.ldxImm b) := ⟨0xA2#8, b, rfl, rfl⟩
theorem ldxZp (b : Byte) : Statement (.ldxZp b) := ⟨0xA6#8, b, rfl, rfl⟩
theorem ldxAbs (w : Word) : Statement (.ldxAbs w) := ⟨0xAE#8, w, rfl, rfl⟩
theorem ldxZpY (b : Byte) : Statement (.ldxZpY b) := ⟨0xB6#8, b, rfl, rfl⟩
theorem ldxAbsY (w : Word) : Statement (.ldxAbsY w) := ⟨0xBE#8, w, rfl, rfl⟩
theorem ldyImm (b : Byte) : Statement (.ldyImm b) := ⟨0xA0#8, b, rfl, rfl⟩
theorem ldyZp (b : Byte) : Statement (.ldyZp b) := ⟨0xA4#8, b, rfl, rfl⟩
theorem ldyAbs (w : Word) : Statement (.ldyAbs w) := ⟨0xAC#8, w, rfl, rfl⟩
theorem ldyZpX (b : Byte) : Statement (.ldyZpX b) := ⟨0xB4#8, b, rfl, rfl⟩
theorem ldyAbsX (w : Word) : Statement (.ldyAbsX w) := ⟨0xBC#8, w, rfl, rfl⟩
theorem staIndX (b : Byte) : Statement (.staIndX b) := ⟨0x81#8, b, rfl, rfl⟩
theorem staZp (b : Byte) : Statement (.staZp b) := ⟨0x85#8, b, rfl, rfl⟩
theorem staAbs (w : Word) : Statement (.staAbs w) := ⟨0x8D#8, w, rfl, rfl⟩
theorem staIndY (b : Byte) : Statement (.staIndY b) := ⟨0x91#8, b, rfl, rfl⟩
theorem staZpX (b : Byte) : Statement (.staZpX b) := ⟨0x95#8, b, rfl, rfl⟩
theorem staAbsY (w : Word) : Statement (.staAbsY w) := ⟨0x99#8, w, rfl, rfl⟩
theorem staAbsX (w : Word) : Statement (.staAbsX w) := ⟨0x9D#8, w, rfl, rfl⟩
theorem stxZp (b : Byte) : Statement (.stxZp b) := ⟨0x86#8, b, rfl, rfl⟩
theorem stxAbs (w : Word) : Statement (.stxAbs w) := ⟨0x8E#8, w, rfl, rfl⟩
theorem stxZpY (b : Byte) : Statement (.stxZpY b) := ⟨0x96#8, b, rfl, rfl⟩
theorem styZp (b : Byte) : Statement (.styZp b) := ⟨0x84#8, b, rfl, rfl⟩
theorem styAbs (w : Word) : Statement (.styAbs w) := ⟨0x8C#8, w, rfl, rfl⟩
theorem styZpX (b : Byte) : Statement (.styZpX b) := ⟨0x94#8, b, rfl, rfl⟩
theorem tax : Statement .tax := ⟨0xAA#8, rfl, rfl⟩
theorem tay : Statement .tay := ⟨0xA8#8, rfl, rfl⟩
theorem txa : Statement .txa := ⟨0x8A#8, rfl, rfl⟩
theorem tya : Statement .tya := ⟨0x98#8, rfl, rfl⟩
theorem tsx : Statement .tsx := ⟨0xBA#8, rfl, rfl⟩
theorem txs : Statement .txs := ⟨0x9A#8, rfl, rfl⟩
theorem adcIndX (b : Byte) : Statement (.adcIndX b) := ⟨0x61#8, b, rfl, rfl⟩
theorem adcZp (b : Byte) : Statement (.adcZp b) := ⟨0x65#8, b, rfl, rfl⟩
theorem adcImm (b : Byte) : Statement (.adcImm b) := ⟨0x69#8, b, rfl, rfl⟩
theorem adcAbs (w : Word) : Statement (.adcAbs w) := ⟨0x6D#8, w, rfl, rfl⟩
theorem adcIndY (b : Byte) : Statement (.adcIndY b) := ⟨0x71#8, b, rfl, rfl⟩
theorem adcZpX (b : Byte) : Statement (.adcZpX b) := ⟨0x75#8, b, rfl, rfl⟩
theorem adcAbsY (w : Word) : Statement (.adcAbsY w) := ⟨0x79#8, w, rfl, rfl⟩
theorem adcAbsX (w : Word) : Statement (.adcAbsX w) := ⟨0x7D#8, w, rfl, rfl⟩
theorem sbcIndX (b : Byte) : Statement (.sbcIndX b) := ⟨0xE1#8, b, rfl, rfl⟩
theorem sbcZp (b : Byte) : Statement (.sbcZp b) := ⟨0xE5#8, b, rfl, rfl⟩
theorem sbcImm (b : Byte) : Statement (.sbcImm b) := ⟨0xE9#8, b, rfl, rfl⟩
theorem sbcAbs (w : Word) : Statement (.sbcAbs w) := ⟨0xED#8, w, rfl, rfl⟩
theorem sbcIndY (b : Byte) : Statement (.sbcIndY b) := ⟨0xF1#8, b, rfl, rfl⟩
theorem sbcZpX (b : Byte) : Statement (.sbcZpX b) := ⟨0xF5#8, b, rfl, rfl⟩
theorem sbcAbsY (w : Word) : Statement (.sbcAbsY w) := ⟨0xF9#8, w, rfl, rfl⟩
theorem sbcAbsX (w : Word) : Statement (.sbcAbsX w) := ⟨0xFD#8, w, rfl, rfl⟩
theorem andIndX (b : Byte) : Statement (.andIndX b) := ⟨0x21#8, b, rfl, rfl⟩
theorem andZp (b : Byte) : Statement (.andZp b) := ⟨0x25#8, b, rfl, rfl⟩
theorem andImm (b : Byte) : Statement (.andImm b) := ⟨0x29#8, b, rfl, rfl⟩
theorem andAbs (w : Word) : Statement (.andAbs w) := ⟨0x2D#8, w, rfl, rfl⟩
theorem andIndY (b : Byte) : Statement (.andIndY b) := ⟨0x31#8, b, rfl, rfl⟩
theorem andZpX (b : Byte) : Statement (.andZpX b) := ⟨0x35#8, b, rfl, rfl⟩
theorem andAbsY (w : Word) : Statement (.andAbsY w) := ⟨0x39#8, w, rfl, rfl⟩
theorem andAbsX (w : Word) : Statement (.andAbsX w) := ⟨0x3D#8, w, rfl, rfl⟩
theorem oraIndX (b : Byte) : Statement (.oraIndX b) := ⟨0x01#8, b, rfl, rfl⟩
theorem oraZp (b : Byte) : Statement (.oraZp b) := ⟨0x05#8, b, rfl, rfl⟩
theorem oraImm (b : Byte) : Statement (.oraImm b) := ⟨0x09#8, b, rfl, rfl⟩
theorem oraAbs (w : Word) : Statement (.oraAbs w) := ⟨0x0D#8, w, rfl, rfl⟩
theorem oraIndY (b : Byte) : Statement (.oraIndY b) := ⟨0x11#8, b, rfl, rfl⟩
theorem oraZpX (b : Byte) : Statement (.oraZpX b) := ⟨0x15#8, b, rfl, rfl⟩
theorem oraAbsY (w : Word) : Statement (.oraAbsY w) := ⟨0x19#8, w, rfl, rfl⟩
theorem oraAbsX (w : Word) : Statement (.oraAbsX w) := ⟨0x1D#8, w, rfl, rfl⟩
theorem eorIndX (b : Byte) : Statement (.eorIndX b) := ⟨0x41#8, b, rfl, rfl⟩
theorem eorZp (b : Byte) : Statement (.eorZp b) := ⟨0x45#8, b, rfl, rfl⟩
theorem eorImm (b : Byte) : Statement (.eorImm b) := ⟨0x49#8, b, rfl, rfl⟩
theorem eorAbs (w : Word) : Statement (.eorAbs w) := ⟨0x4D#8, w, rfl, rfl⟩
theorem eorIndY (b : Byte) : Statement (.eorIndY b) := ⟨0x51#8, b, rfl, rfl⟩
theorem eorZpX (b : Byte) : Statement (.eorZpX b) := ⟨0x55#8, b, rfl, rfl⟩
theorem eorAbsY (w : Word) : Statement (.eorAbsY w) := ⟨0x59#8, w, rfl, rfl⟩
theorem eorAbsX (w : Word) : Statement (.eorAbsX w) := ⟨0x5D#8, w, rfl, rfl⟩
theorem cmpIndX (b : Byte) : Statement (.cmpIndX b) := ⟨0xC1#8, b, rfl, rfl⟩
theorem cmpZp (b : Byte) : Statement (.cmpZp b) := ⟨0xC5#8, b, rfl, rfl⟩
theorem cmpImm (b : Byte) : Statement (.cmpImm b) := ⟨0xC9#8, b, rfl, rfl⟩
theorem cmpAbs (w : Word) : Statement (.cmpAbs w) := ⟨0xCD#8, w, rfl, rfl⟩
theorem cmpIndY (b : Byte) : Statement (.cmpIndY b) := ⟨0xD1#8, b, rfl, rfl⟩
theorem cmpZpX (b : Byte) : Statement (.cmpZpX b) := ⟨0xD5#8, b, rfl, rfl⟩
theorem cmpAbsY (w : Word) : Statement (.cmpAbsY w) := ⟨0xD9#8, w, rfl, rfl⟩
theorem cmpAbsX (w : Word) : Statement (.cmpAbsX w) := ⟨0xDD#8, w, rfl, rfl⟩
theorem cpxImm (b : Byte) : Statement (.cpxImm b) := ⟨0xE0#8, b, rfl, rfl⟩
theorem cpxZp (b : Byte) : Statement (.cpxZp b) := ⟨0xE4#8, b, rfl, rfl⟩
theorem cpxAbs (w : Word) : Statement (.cpxAbs w) := ⟨0xEC#8, w, rfl, rfl⟩
theorem cpyImm (b : Byte) : Statement (.cpyImm b) := ⟨0xC0#8, b, rfl, rfl⟩
theorem cpyZp (b : Byte) : Statement (.cpyZp b) := ⟨0xC4#8, b, rfl, rfl⟩
theorem cpyAbs (w : Word) : Statement (.cpyAbs w) := ⟨0xCC#8, w, rfl, rfl⟩
theorem bitZp (b : Byte) : Statement (.bitZp b) := ⟨0x24#8, b, rfl, rfl⟩
theorem bitAbs (w : Word) : Statement (.bitAbs w) := ⟨0x2C#8, w, rfl, rfl⟩
theorem incZp (b : Byte) : Statement (.incZp b) := ⟨0xE6#8, b, rfl, rfl⟩
theorem incAbs (w : Word) : Statement (.incAbs w) := ⟨0xEE#8, w, rfl, rfl⟩
theorem incZpX (b : Byte) : Statement (.incZpX b) := ⟨0xF6#8, b, rfl, rfl⟩
theorem incAbsX (w : Word) : Statement (.incAbsX w) := ⟨0xFE#8, w, rfl, rfl⟩
theorem decZp (b : Byte) : Statement (.decZp b) := ⟨0xC6#8, b, rfl, rfl⟩
theorem decAbs (w : Word) : Statement (.decAbs w) := ⟨0xCE#8, w, rfl, rfl⟩
theorem decZpX (b : Byte) : Statement (.decZpX b) := ⟨0xD6#8, b, rfl, rfl⟩
theorem decAbsX (w : Word) : Statement (.decAbsX w) := ⟨0xDE#8, w, rfl, rfl⟩
theorem inx : Statement .inx := ⟨0xE8#8, rfl, rfl⟩
theorem iny : Statement .iny := ⟨0xC8#8, rfl, rfl⟩
theorem dex : Statement .dex := ⟨0xCA#8, rfl, rfl⟩
theorem dey : Statement .dey := ⟨0x88#8, rfl, rfl⟩
theorem aslZp (b : Byte) : Statement (.aslZp b) := ⟨0x06#8, b, rfl, rfl⟩
theorem aslAcc : Statement .aslAcc := ⟨0x0A#8, rfl, rfl⟩
theorem aslAbs (w : Word) : Statement (.aslAbs w) := ⟨0x0E#8, w, rfl, rfl⟩
theorem aslZpX (b : Byte) : Statement (.aslZpX b) := ⟨0x16#8, b, rfl, rfl⟩
theorem aslAbsX (w : Word) : Statement (.aslAbsX w) := ⟨0x1E#8, w, rfl, rfl⟩
theorem lsrZp (b : Byte) : Statement (.lsrZp b) := ⟨0x46#8, b, rfl, rfl⟩
theorem lsrAcc : Statement .lsrAcc := ⟨0x4A#8, rfl, rfl⟩
theorem lsrAbs (w : Word) : Statement (.lsrAbs w) := ⟨0x4E#8, w, rfl, rfl⟩
theorem lsrZpX (b : Byte) : Statement (.lsrZpX b) := ⟨0x56#8, b, rfl, rfl⟩
theorem lsrAbsX (w : Word) : Statement (.lsrAbsX w) := ⟨0x5E#8, w, rfl, rfl⟩
theorem rolZp (b : Byte) : Statement (.rolZp b) := ⟨0x26#8, b, rfl, rfl⟩
theorem rolAcc : Statement .rolAcc := ⟨0x2A#8, rfl, rfl⟩
theorem rolAbs (w : Word) : Statement (.rolAbs w) := ⟨0x2E#8, w, rfl, rfl⟩
theorem rolZpX (b : Byte) : Statement (.rolZpX b) := ⟨0x36#8, b, rfl, rfl⟩
theorem rolAbsX (w : Word) : Statement (.rolAbsX w) := ⟨0x3E#8, w, rfl, rfl⟩
theorem rorZp (b : Byte) : Statement (.rorZp b) := ⟨0x66#8, b, rfl, rfl⟩
theorem rorAcc : Statement .rorAcc := ⟨0x6A#8, rfl, rfl⟩
theorem rorAbs (w : Word) : Statement (.rorAbs w) := ⟨0x6E#8, w, rfl, rfl⟩
theorem rorZpX (b : Byte) : Statement (.rorZpX b) := ⟨0x76#8, b, rfl, rfl⟩
theorem rorAbsX (w : Word) : Statement (.rorAbsX w) := ⟨0x7E#8, w, rfl, rfl⟩
theorem jmpAbs (w : Word) : Statement (.jmpAbs w) := ⟨0x4C#8, w, rfl, rfl⟩
theorem jmpInd (w : Word) : Statement (.jmpInd w) := ⟨0x6C#8, w, rfl, rfl⟩
theorem jsr (w : Word) : Statement (.jsr w) := ⟨0x20#8, w, rfl, rfl⟩
theorem rts : Statement .rts := ⟨0x60#8, rfl, rfl⟩
theorem bcc (b : Byte) : Statement (.bcc b) := ⟨0x90#8, b, rfl, rfl⟩
theorem bcs (b : Byte) : Statement (.bcs b) := ⟨0xB0#8, b, rfl, rfl⟩
theorem beq (b : Byte) : Statement (.beq b) := ⟨0xF0#8, b, rfl, rfl⟩
theorem bne (b : Byte) : Statement (.bne b) := ⟨0xD0#8, b, rfl, rfl⟩
theorem bmi (b : Byte) : Statement (.bmi b) := ⟨0x30#8, b, rfl, rfl⟩
theorem bpl (b : Byte) : Statement (.bpl b) := ⟨0x10#8, b, rfl, rfl⟩
theorem bvc (b : Byte) : Statement (.bvc b) := ⟨0x50#8, b, rfl, rfl⟩
theorem bvs (b : Byte) : Statement (.bvs b) := ⟨0x70#8, b, rfl, rfl⟩
theorem pha : Statement .pha := ⟨0x48#8, rfl, rfl⟩
theorem pla : Statement .pla := ⟨0x68#8, rfl, rfl⟩
theorem php : Statement .php := ⟨0x08#8, rfl, rfl⟩
theorem plp : Statement .plp := ⟨0x28#8, rfl, rfl⟩
theorem clc : Statement .clc := ⟨0x18#8, rfl, rfl⟩
theorem sec : Statement .sec := ⟨0x38#8, rfl, rfl⟩
theorem cli : Statement .cli := ⟨0x58#8, rfl, rfl⟩
theorem sei : Statement .sei := ⟨0x78#8, rfl, rfl⟩
theorem clv : Statement .clv := ⟨0xB8#8, rfl, rfl⟩
theorem brk : Statement .brk := ⟨0x00#8, rfl, rfl⟩
theorem rti : Statement .rti := ⟨0x40#8, rfl, rfl⟩
theorem cld : Statement .cld := ⟨0xD8#8, rfl, rfl⟩
theorem sed : Statement .sed := ⟨0xF8#8, rfl, rfl⟩
theorem nop : Statement .nop := ⟨0xEA#8, rfl, rfl⟩
theorem illegal02 : Statement .illegal02 := ⟨0x02#8, rfl, rfl⟩
theorem illegal03 : Statement .illegal03 := ⟨0x03#8, rfl, rfl⟩
theorem illegal04 : Statement .illegal04 := ⟨0x04#8, rfl, rfl⟩
theorem illegal07 : Statement .illegal07 := ⟨0x07#8, rfl, rfl⟩
theorem illegal0B : Statement .illegal0B := ⟨0x0B#8, rfl, rfl⟩
theorem illegal0C : Statement .illegal0C := ⟨0x0C#8, rfl, rfl⟩
theorem illegal0F : Statement .illegal0F := ⟨0x0F#8, rfl, rfl⟩
theorem illegal12 : Statement .illegal12 := ⟨0x12#8, rfl, rfl⟩
theorem illegal13 : Statement .illegal13 := ⟨0x13#8, rfl, rfl⟩
theorem illegal14 : Statement .illegal14 := ⟨0x14#8, rfl, rfl⟩
theorem illegal17 : Statement .illegal17 := ⟨0x17#8, rfl, rfl⟩
theorem illegal1A : Statement .illegal1A := ⟨0x1A#8, rfl, rfl⟩
theorem illegal1B : Statement .illegal1B := ⟨0x1B#8, rfl, rfl⟩
theorem illegal1C : Statement .illegal1C := ⟨0x1C#8, rfl, rfl⟩
theorem illegal1F : Statement .illegal1F := ⟨0x1F#8, rfl, rfl⟩
theorem illegal22 : Statement .illegal22 := ⟨0x22#8, rfl, rfl⟩
theorem illegal23 : Statement .illegal23 := ⟨0x23#8, rfl, rfl⟩
theorem illegal27 : Statement .illegal27 := ⟨0x27#8, rfl, rfl⟩
theorem illegal2B : Statement .illegal2B := ⟨0x2B#8, rfl, rfl⟩
theorem illegal2F : Statement .illegal2F := ⟨0x2F#8, rfl, rfl⟩
theorem illegal32 : Statement .illegal32 := ⟨0x32#8, rfl, rfl⟩
theorem illegal33 : Statement .illegal33 := ⟨0x33#8, rfl, rfl⟩
theorem illegal34 : Statement .illegal34 := ⟨0x34#8, rfl, rfl⟩
theorem illegal37 : Statement .illegal37 := ⟨0x37#8, rfl, rfl⟩
theorem illegal3A : Statement .illegal3A := ⟨0x3A#8, rfl, rfl⟩
theorem illegal3B : Statement .illegal3B := ⟨0x3B#8, rfl, rfl⟩
theorem illegal3C : Statement .illegal3C := ⟨0x3C#8, rfl, rfl⟩
theorem illegal3F : Statement .illegal3F := ⟨0x3F#8, rfl, rfl⟩
theorem illegal42 : Statement .illegal42 := ⟨0x42#8, rfl, rfl⟩
theorem illegal43 : Statement .illegal43 := ⟨0x43#8, rfl, rfl⟩
theorem illegal44 : Statement .illegal44 := ⟨0x44#8, rfl, rfl⟩
theorem illegal47 : Statement .illegal47 := ⟨0x47#8, rfl, rfl⟩
theorem illegal4B : Statement .illegal4B := ⟨0x4B#8, rfl, rfl⟩
theorem illegal4F : Statement .illegal4F := ⟨0x4F#8, rfl, rfl⟩
theorem illegal52 : Statement .illegal52 := ⟨0x52#8, rfl, rfl⟩
theorem illegal53 : Statement .illegal53 := ⟨0x53#8, rfl, rfl⟩
theorem illegal54 : Statement .illegal54 := ⟨0x54#8, rfl, rfl⟩
theorem illegal57 : Statement .illegal57 := ⟨0x57#8, rfl, rfl⟩
theorem illegal5A : Statement .illegal5A := ⟨0x5A#8, rfl, rfl⟩
theorem illegal5B : Statement .illegal5B := ⟨0x5B#8, rfl, rfl⟩
theorem illegal5C : Statement .illegal5C := ⟨0x5C#8, rfl, rfl⟩
theorem illegal5F : Statement .illegal5F := ⟨0x5F#8, rfl, rfl⟩
theorem illegal62 : Statement .illegal62 := ⟨0x62#8, rfl, rfl⟩
theorem illegal63 : Statement .illegal63 := ⟨0x63#8, rfl, rfl⟩
theorem illegal64 : Statement .illegal64 := ⟨0x64#8, rfl, rfl⟩
theorem illegal67 : Statement .illegal67 := ⟨0x67#8, rfl, rfl⟩
theorem illegal6B : Statement .illegal6B := ⟨0x6B#8, rfl, rfl⟩
theorem illegal6F : Statement .illegal6F := ⟨0x6F#8, rfl, rfl⟩
theorem illegal72 : Statement .illegal72 := ⟨0x72#8, rfl, rfl⟩
theorem illegal73 : Statement .illegal73 := ⟨0x73#8, rfl, rfl⟩
theorem illegal74 : Statement .illegal74 := ⟨0x74#8, rfl, rfl⟩
theorem illegal77 : Statement .illegal77 := ⟨0x77#8, rfl, rfl⟩
theorem illegal7A : Statement .illegal7A := ⟨0x7A#8, rfl, rfl⟩
theorem illegal7B : Statement .illegal7B := ⟨0x7B#8, rfl, rfl⟩
theorem illegal7C : Statement .illegal7C := ⟨0x7C#8, rfl, rfl⟩
theorem illegal7F : Statement .illegal7F := ⟨0x7F#8, rfl, rfl⟩
theorem illegal80 : Statement .illegal80 := ⟨0x80#8, rfl, rfl⟩
theorem illegal82 : Statement .illegal82 := ⟨0x82#8, rfl, rfl⟩
theorem illegal83 : Statement .illegal83 := ⟨0x83#8, rfl, rfl⟩
theorem illegal87 : Statement .illegal87 := ⟨0x87#8, rfl, rfl⟩
theorem illegal89 : Statement .illegal89 := ⟨0x89#8, rfl, rfl⟩
theorem illegal8B : Statement .illegal8B := ⟨0x8B#8, rfl, rfl⟩
theorem illegal8F : Statement .illegal8F := ⟨0x8F#8, rfl, rfl⟩
theorem illegal92 : Statement .illegal92 := ⟨0x92#8, rfl, rfl⟩
theorem illegal93 : Statement .illegal93 := ⟨0x93#8, rfl, rfl⟩
theorem illegal97 : Statement .illegal97 := ⟨0x97#8, rfl, rfl⟩
theorem illegal9B : Statement .illegal9B := ⟨0x9B#8, rfl, rfl⟩
theorem illegal9C : Statement .illegal9C := ⟨0x9C#8, rfl, rfl⟩
theorem illegal9E : Statement .illegal9E := ⟨0x9E#8, rfl, rfl⟩
theorem illegal9F : Statement .illegal9F := ⟨0x9F#8, rfl, rfl⟩
theorem illegalA3 : Statement .illegalA3 := ⟨0xA3#8, rfl, rfl⟩
theorem illegalA7 : Statement .illegalA7 := ⟨0xA7#8, rfl, rfl⟩
theorem illegalAB : Statement .illegalAB := ⟨0xAB#8, rfl, rfl⟩
theorem illegalAF : Statement .illegalAF := ⟨0xAF#8, rfl, rfl⟩
theorem illegalB2 : Statement .illegalB2 := ⟨0xB2#8, rfl, rfl⟩
theorem illegalB3 : Statement .illegalB3 := ⟨0xB3#8, rfl, rfl⟩
theorem illegalB7 : Statement .illegalB7 := ⟨0xB7#8, rfl, rfl⟩
theorem illegalBB : Statement .illegalBB := ⟨0xBB#8, rfl, rfl⟩
theorem illegalBF : Statement .illegalBF := ⟨0xBF#8, rfl, rfl⟩
theorem illegalC2 : Statement .illegalC2 := ⟨0xC2#8, rfl, rfl⟩
theorem illegalC3 : Statement .illegalC3 := ⟨0xC3#8, rfl, rfl⟩
theorem illegalC7 : Statement .illegalC7 := ⟨0xC7#8, rfl, rfl⟩
theorem illegalCB : Statement .illegalCB := ⟨0xCB#8, rfl, rfl⟩
theorem illegalCF : Statement .illegalCF := ⟨0xCF#8, rfl, rfl⟩
theorem illegalD2 : Statement .illegalD2 := ⟨0xD2#8, rfl, rfl⟩
theorem illegalD3 : Statement .illegalD3 := ⟨0xD3#8, rfl, rfl⟩
theorem illegalD4 : Statement .illegalD4 := ⟨0xD4#8, rfl, rfl⟩
theorem illegalD7 : Statement .illegalD7 := ⟨0xD7#8, rfl, rfl⟩
theorem illegalDA : Statement .illegalDA := ⟨0xDA#8, rfl, rfl⟩
theorem illegalDB : Statement .illegalDB := ⟨0xDB#8, rfl, rfl⟩
theorem illegalDC : Statement .illegalDC := ⟨0xDC#8, rfl, rfl⟩
theorem illegalDF : Statement .illegalDF := ⟨0xDF#8, rfl, rfl⟩
theorem illegalE2 : Statement .illegalE2 := ⟨0xE2#8, rfl, rfl⟩
theorem illegalE3 : Statement .illegalE3 := ⟨0xE3#8, rfl, rfl⟩
theorem illegalE7 : Statement .illegalE7 := ⟨0xE7#8, rfl, rfl⟩
theorem illegalEB : Statement .illegalEB := ⟨0xEB#8, rfl, rfl⟩
theorem illegalEF : Statement .illegalEF := ⟨0xEF#8, rfl, rfl⟩
theorem illegalF2 : Statement .illegalF2 := ⟨0xF2#8, rfl, rfl⟩
theorem illegalF3 : Statement .illegalF3 := ⟨0xF3#8, rfl, rfl⟩
theorem illegalF4 : Statement .illegalF4 := ⟨0xF4#8, rfl, rfl⟩
theorem illegalF7 : Statement .illegalF7 := ⟨0xF7#8, rfl, rfl⟩
theorem illegalFA : Statement .illegalFA := ⟨0xFA#8, rfl, rfl⟩
theorem illegalFB : Statement .illegalFB := ⟨0xFB#8, rfl, rfl⟩
theorem illegalFC : Statement .illegalFC := ⟨0xFC#8, rfl, rfl⟩
theorem illegalFF : Statement .illegalFF := ⟨0xFF#8, rfl, rfl⟩

end Sys2Proof.Laws.Encoding
end

