-- ==== Sys2Proof/Laws/Rows.lean ====
section
/-! SUPPORT. The words the statements share, met once for each shape of instruction: flags, stores, a read
form, a storing form, a read-modify-write form, an accumulator form. -/

namespace Sys2Proof.Machine

open Sys2Proof.Claims

/-! ## Flags -/

theorem setsFlags_zn (p v : Byte) : SetsFlags p (setZN v p) (zn v) := by
  refine ⟨by simp [zn], fun f hf => ?_⟩
  simp [zn] at hf
  simp [hf]

theorem setsFlags_setFlag (p : Byte) (f : Flag) (v : Bool) : SetsFlags p (setFlag f v p) [(f, v)] := by
  refine ⟨by simp, fun g hg => ?_⟩
  simp at hg
  simp [hg]

theorem setsFlags_shift (p : Byte) (c : Bool) (r : Byte) :
    SetsFlags p (shiftAlu c r p).p ((.C, c) :: zn r) := by
  refine ⟨by simp [zn, getFlag_shift], fun f hf => ?_⟩
  simp [zn] at hf
  simp [hf, getFlag_shift]

theorem setsFlags_pushedByInstruction (p : Byte) :
    SetsFlags p (pushedByInstruction p) [(.B, true), (.U, true)] := by
  refine ⟨by simp [getFlag_pushedByInstruction], fun f hf => ?_⟩
  simp at hf
  simp [getFlag_pushedByInstruction, hf]

theorem setsFlags_pushedByInterrupt (p : Byte) :
    SetsFlags p (pushedByInterrupt p) [(.B, false), (.U, true)] := by
  refine ⟨by simp [getFlag_pushedByInterrupt], fun f hf => ?_⟩
  simp at hf
  simp [getFlag_pushedByInterrupt, hf]

theorem setsFlags_pulledStatus (p : Byte) : SetsFlags p (pulledStatus p) [(.B, false), (.U, true)] := by
  refine ⟨by simp, fun f hf => ?_⟩
  simp at hf
  simp [hf]

/-! ## Stores -/

/-- Nothing is stored when the cartridge and the two RAMs stay. -/
theorem stores_nil {s t : State} (hr : t.ram = s.ram) (hp : t.prgRam = s.prgRam) (hc : t.cart = s.cart) :
    Stores s t [] := ⟨by simp, fun _ h _ => byteAt_congr hr hp hc h⟩

/-- One bus write, then anything that leaves the memories alone. -/
theorem stores_memWrite {s t : State} (hi : s.Inv) (ea : Word) (v : Byte)
    (hr : t.ram = (memWrite ea v s).ram) (hp : t.prgRam = (memWrite ea v s).prgRam) (hc : t.cart = s.cart) :
    Stores s t [(ea, v)] := by
  have hb := (memWrite_busOnly ea v s).same.2.2.2.2.2.2.2.1
  have hcong : ∀ addr, isMemoryAddr addr = true → t.byteAt addr = (memWrite ea v s).byteAt addr :=
    fun addr ha => byteAt_congr hr hp (hc.trans hb.symm) ha
  refine ⟨fun c hm addr hs => ?_, fun addr ha hn => ?_⟩
  · obtain rfl := List.mem_singleton.1 hm
    have hm' := (storedAt_memory hs).1
    rw [hcong _ hm']
    exact (byteAt_memWrite hi _ _ hm').1 hs
  · rw [hcong _ ha]
    exact (byteAt_memWrite hi _ _ ha).2 (hn _ (List.mem_singleton.2 rfl))

theorem stack_slots_differ (sp : Byte) :
    sp.toNat ≠ (sp - 1#8).toNat ∧ sp.toNat ≠ (sp - 2#8).toNat ∧ (sp - 1#8).toNat ≠ (sp - 2#8).toNat := by
  have := sp.isLt
  simp only [BitVec.toNat_sub]
  simp
  omega

/-- One byte pushed. -/
theorem stores_push {s t : State} (hi : s.Inv) (v : Byte) (hr : t.ram = s.ram.write (0x0100 + s.sp.toNat) v)
    (hp : t.prgRam = s.prgRam) (hc : t.cart = s.cart) : Stores s t [(stackAddr s.sp, v)] := by
  refine ⟨fun c hm addr hs => ?_, fun addr ha hn => ?_⟩
  · obtain rfl := List.mem_singleton.1 hm
    obtain ⟨h1, h2⟩ := storedAt_stack.1 hs
    rw [byteAt_split hp hc (isMemoryAddr_of_ram h1), if_pos h1, hr, Memory.read_write hi.ram.1, if_pos h2]
  · have hn' := hn _ (List.mem_singleton.2 rfl)
    simp only [storedAt_stack] at hn'
    rw [byteAt_split hp hc ha]
    split
    · rename_i hlt
      rw [hr, Memory.read_write hi.ram.1, if_neg fun e => hn' ⟨hlt, e⟩, State.byteAt, memRead_ram s hlt]
    · rfl

/-- Two bytes pushed. -/
theorem stores_push_two {s t : State} (hi : s.Inv) (v w : Byte)
    (hr : t.ram = (s.ram.write (0x0100 + s.sp.toNat) v).write (0x0100 + (s.sp - 1#8).toNat) w)
    (hp : t.prgRam = s.prgRam) (hc : t.cart = s.cart) :
    Stores s t [(stackAddr s.sp, v), (stackAddr (s.sp - 1#8), w)] := by
  have hd := stack_slots_differ s.sp
  have hw := Memory.wf_write hi.ram.1 (0x0100 + s.sp.toNat) v
  refine ⟨fun c hm addr hs => ?_, fun addr ha hn => ?_⟩
  · simp only [List.mem_cons, List.not_mem_nil, or_false] at hm
    rcases hm with rfl | rfl
    all_goals
      obtain ⟨h1, h2⟩ := storedAt_stack.1 hs
      rw [byteAt_split hp hc (isMemoryAddr_of_ram h1), if_pos h1, hr, Memory.read_write hw,
        Memory.read_write hi.ram.1, ← h2]
    · rw [if_neg (by omega), if_pos rfl]
    · rw [if_pos rfl]
  · have hn1 := hn (stackAddr s.sp, v) (by simp)
    have hn2 := hn (stackAddr (s.sp - 1#8), w) (by simp)
    simp only [storedAt_stack] at hn1 hn2
    rw [byteAt_split hp hc ha]
    split
    · rename_i hlt
      rw [hr, Memory.read_write hw, Memory.read_write hi.ram.1, if_neg fun e => hn2 ⟨hlt, e⟩,
        if_neg fun e => hn1 ⟨hlt, e⟩, State.byteAt, memRead_ram s hlt]
    · rfl

/-- Three bytes pushed, as BRK, NMI and IRQ do. -/
theorem stores_push_three {s t : State} (hi : s.Inv) (v w x : Byte)
    (hr : t.ram = ((s.ram.write (0x0100 + s.sp.toNat) v).write (0x0100 + (s.sp - 1#8).toNat) w).write
      (0x0100 + (s.sp - 2#8).toNat) x)
    (hp : t.prgRam = s.prgRam) (hc : t.cart = s.cart) :
    Stores s t [(stackAddr s.sp, v), (stackAddr (s.sp - 1#8), w), (stackAddr (s.sp - 2#8), x)] := by
  have hd := stack_slots_differ s.sp
  have hw := Memory.wf_write hi.ram.1 (0x0100 + s.sp.toNat) v
  have hw' := Memory.wf_write hw (0x0100 + (s.sp - 1#8).toNat) w
  refine ⟨fun c hm addr hs => ?_, fun addr ha hn => ?_⟩
  · simp only [List.mem_cons, List.not_mem_nil, or_false] at hm
    rcases hm with rfl | rfl | rfl
    all_goals
      obtain ⟨h1, h2⟩ := storedAt_stack.1 hs
      rw [byteAt_split hp hc (isMemoryAddr_of_ram h1), if_pos h1, hr, Memory.read_write hw',
        Memory.read_write hw, Memory.read_write hi.ram.1, ← h2]
    · rw [if_neg (by omega), if_neg (by omega), if_pos rfl]
    · rw [if_neg (by omega), if_pos rfl]
    · rw [if_pos rfl]
  · have hn1 := hn (stackAddr s.sp, v) (by simp)
    have hn2 := hn (stackAddr (s.sp - 1#8), w) (by simp)
    have hn3 := hn (stackAddr (s.sp - 2#8), x) (by simp)
    simp only [storedAt_stack] at hn1 hn2 hn3
    rw [byteAt_split hp hc ha]
    split
    · rename_i hlt
      rw [hr, Memory.read_write hw', Memory.read_write hw, Memory.read_write hi.ram.1,
        if_neg fun e => hn3 ⟨hlt, e⟩, if_neg fun e => hn2 ⟨hlt, e⟩, if_neg fun e => hn1 ⟨hlt, e⟩,
        State.byteAt, memRead_ram s hlt]
    · rfl

/-! ## A data read -/

/-- The state after a data read (20_memory.md R69). -/
theorem fetch_state (o : Source) (s : State) :
    (o.fetch s).st =
      { s with
        ppu := ppuAfterRead (sourceAddr o s) s
        pad1 := pad1AfterRead (sourceAddr o s) s
        pad2 := pad2AfterRead (sourceAddr o s) s } := by
  cases o with
  | imm b => simp [fetch_imm, sourceAddr, ppuAfterRead, pad1AfterRead, pad2AfterRead]
  | mem m =>
    rw [fetch_mem]
    simp only [sourceAddr]
    generalize (m.resolve s).ea = ea
    simp only [ppuAfterRead, pad1AfterRead, pad2AfterRead, Option.some.injEq]
    have h16 : ea.toNat = 0x4016 ↔ ea = 0x4016#16 := ⟨fun e => BitVec.eq_of_toNat_eq e, fun e => by rw [e]; rfl⟩
    have h17 : ea.toNat = 0x4017 ↔ ea = 0x4017#16 := ⟨fun e => BitVec.eq_of_toNat_eq e, fun e => by rw [e]; rfl⟩
    by_cases c1 : ea.toNat < 0x2000
    · rw [memRead_ram s c1, if_neg (by omega), if_neg (by omega), if_neg (by rw [← h16]; omega),
        if_neg (by rw [← h17]; omega)]
    by_cases c2 : ea.toNat < 0x4000
    · rw [memRead_ppu s (by omega) c2, if_neg (show ¬ ea = 0x4016#16 by rw [← h16]; omega),
        if_neg (show ¬ ea = 0x4017#16 by rw [← h17]; omega)]
      by_cases d2 : ea.toNat % 8 = 2
      · rw [if_pos ⟨by omega, c2, d2⟩, d2]; rfl
      rw [if_neg fun h => d2 h.2.2]
      by_cases d7 : ea.toNat % 8 = 7
      · rw [if_pos ⟨by omega, c2, d7⟩, d7]; rfl
      rw [if_neg fun h => d7 h.2.2]
      generalize ea.toNat % 8 = n at *
      unfold ppuRegRead
      split <;> first | rfl | omega
    rw [if_neg (by omega), if_neg (by omega)]
    by_cases c3 : ea.toNat = 0x4016
    · obtain rfl := h16.1 c3
      rfl
    rw [if_neg (by rw [← h16]; exact c3)]
    by_cases c4 : ea.toNat = 0x4017
    · obtain rfl := h17.1 c4
      rfl
    rw [if_neg (by rw [← h17]; exact c4),
      memRead_quiet s (.inr ⟨by omega, by rw [ne_eq, ← h16]; exact c3, by rw [ne_eq, ← h17]; exact c4⟩)]

theorem fetch_byte (o : Source) (s : State) : (o.fetch s).val = sourceByte o s := by
  cases o with
  | imm b => rfl
  | mem m => rw [fetch_mem]; rfl

theorem fetch_crosses (o : Source) (s : State) : (o.fetch s).crossed = sourceCrossed o s := by
  cases o with
  | imm b => rfl
  | mem m => rw [fetch_mem]; rfl

/-! ## The shapes of rows -/

/-- A read form. -/
theorem readRow_of {s : State} {a x y : Byte → Byte} {flags : Byte → List (Flag × Bool)} {i : Instr}
    {bytes : List Byte} {o : Source} {base : Nat} {pen : Bool} (act : Byte → State → State) (P : Byte → Byte)
    (he : encode i = bytes) (hx : exec i s = readOp base pen o act s)
    (ha : ∀ m t, t.a = s.a → t.x = s.x → t.y = s.y → t.p = s.p →
      act m t = { t with a := a m, x := x m, y := y m, p := P m })
    (hP : ∀ m, SetsFlags s.p (P m) (flags m)) : ReadRow s a x y flags i bytes o base pen := by
  refine ⟨P (sourceByte o s), hP _, he, ?_, stores_nil rfl rfl rfl⟩
  have ha' := ha (o.fetch s).val (o.fetch s).st (by rw [fetch_state]) (by rw [fetch_state])
    (by rw [fetch_state]) (by rw [fetch_state])
  rw [hx, readOp_next, ha', fetch_state, fetch_byte, fetch_crosses]
  unfold afterRead readCycles State.addCycles State.setCycles pagePenalty
  cases pen <;> cases sourceCrossed o s <;> rfl

/-- What a storing form leaves alone; `u` is the state before its bus write. -/
theorem storeFrame_of {ea : Word} {s t u : State} {v : Byte} (hu : u = s ∨ u = (memRead ea s).2)
    (ht : ∃ p n, t = { memWrite ea v u with p := p, cycles := n }) : StoreFrame ea s t := by
  obtain ⟨p, n, rfl⟩ := ht
  have hr : ReadsOnly s u := by
    rcases hu with rfl | rfl
    · exact .refl _
    · exact memRead_readsOnly _ _
  obtain ⟨a1, a2, a3, a4, _, a6, _, _, _, a10, a11, a12, a13, a14⟩ := hr.same
  obtain ⟨b1, b2, b3, b4, _, b6, _, b8, b9, b10, b11⟩ := (memWrite_busOnly ea v u).same
  refine ⟨b1.trans a1, b2.trans a2, b3.trans a3, b4.trans a4, b6.trans a6, b8.trans a11, b9.trans a12,
    b10.trans a13, b11.trans a14, fun h => (memWrite_leaves_chr v u (by omega)).trans a10, fun h h14 => ?_,
    fun h14 h16 h17 => ?_⟩
  · refine (memWrite_leaves_ppu v u (by omega) h14).trans ?_
    rcases hu with rfl | rfl
    · rfl
    by_cases h16 : ea = 0x4016#16
    · subst h16; rfl
    by_cases h17 : ea = 0x4017#16
    · subst h17; rfl
    by_cases hlt : ea.toNat < 0x2000
    · rw [memRead_quiet s (.inl hlt)]
    · rw [memRead_quiet s (.inr ⟨by omega, h16, h17⟩)]
  · have hp := memWrite_leaves_pads v u h14 h16
    refine ⟨hp.1.trans ?_, hp.2.trans ?_⟩ <;>
    · rcases hu with rfl | rfl
      · rfl
      · rw [memRead_ppuOnly s h16 h17]

/-- A storing form. -/
theorem storeRow_of {s : State} (hi : s.Inv) {v : Byte} {i : Instr} {bytes : List Byte} {o : MemOperand}
    {base : Nat} (he : encode i = bytes) (hx : exec i s = storeOp base o v s) : StoreRow s v i bytes o base := by
  refine ⟨{ memWrite (o.resolve s).ea v s with cycles := s.cycles + storeCycles base (o.resolve s).ea s },
    ⟨he, ?_, stores_memWrite hi _ _ rfl rfl (memWrite_busOnly _ _ _).same.2.2.2.2.2.2.2.1⟩,
    storeFrame_of (.inl rfl) ⟨_, _, rfl⟩, (memWrite_busOnly _ _ _).same.2.2.2.2.1, rfl⟩
  rw [hx, storeOp_next]
  simp only [State.addCycles, State.setCycles, memWrite_cycles, storeCycles, dmaStall, oamDmaAddr]
  rfl

/-- A read-modify-write form. -/
theorem modifyRow_of {s : State} (hi : s.Inv) {r : Byte → Byte} {flags : Byte → List (Flag × Bool)} {i : Instr}
    {bytes : List Byte} {o : MemOperand} {base : Nat} (alu : Byte → Byte → Alu) (he : encode i = bytes)
    (hx : exec i s = modifyOp base o alu s) (hv : ∀ m, (alu m s.p).val = r m)
    (hf : ∀ m, SetsFlags s.p (alu m s.p).p (flags m)) : ModifyRow s r flags i bytes o base := by
  refine ⟨{ memWrite (o.resolve s).ea (r (s.byteAt (o.resolve s).ea)) (memRead (o.resolve s).ea s).2 with
      p := (alu (s.byteAt (o.resolve s).ea) s.p).p
      cycles := s.cycles + storeCycles base (o.resolve s).ea s },
    ⟨he, ?_, ?_⟩, storeFrame_of (.inr rfl) ⟨_, _, rfl⟩, hf _, rfl⟩
  · rw [hx, modifyOp_next]
    simp only [State.addCycles, State.setCycles, State.setP, memWrite_cycles, memRead_cycles, storeCycles,
      dmaStall, oamDmaAddr, hv, State.byteAt]
    rfl
  · generalize (o.resolve s).ea = ea
    have hr := memRead_readsOnly ea s
    have h1 := stores_memWrite (t := { memWrite ea (r (s.byteAt ea)) (memRead ea s).2 with
        p := (alu (s.byteAt ea) s.p).p, cycles := s.cycles + storeCycles base ea s })
      (memRead_inv ea hi) ea (r (s.byteAt ea)) rfl rfl (memWrite_busOnly _ _ _).same.2.2.2.2.2.2.2.1
    exact ⟨h1.1, fun addr ha hn => (h1.2 addr ha hn).trans (byteAt_readsOnly hr ha)⟩

/-- An accumulator form. -/
theorem accumulatorRow_of {s : State} {i : Instr} {op r : Byte} {flags : List (Flag × Bool)}
    (alu : Byte → Byte → Alu) (he : encode i = [op]) (hx : exec i s = accumulatorOp 2 alu s)
    (hv : (alu s.a s.p).val = r) (hf : SetsFlags s.p (alu s.a s.p).p flags) : AccumulatorRow s i op r flags := by
  refine ⟨_, hf, he, ?_, stores_nil rfl rfl rfl⟩
  rw [hx, accumulatorOp_next, hv]

/-! ## The PPU bus -/

theorem ntIndex_eq_ntCell (m : Config.Mirroring) (a : PpuAddr) : ntIndex m a = ntCell m a.toNat := by
  cases m with
  | vertical => exact ntIndex_vertical a
  | horizontal => exact ntIndex_horizontal a

theorem palIndex_eq_palCell (a : PpuAddr) : palIndex a = palCell a.toNat := palIndex_eq a

theorem ppuRead_eq_ppuByte (env : PpuEnv) (p : Ppu) (a : PpuAddr) : ppuRead env p a = ppuByte env p a.toNat := by
  unfold ppuRead ppuByte
  rw [ntIndex_eq_ntCell, palIndex_eq_palCell, Nat.mod_eq_of_lt a.isLt]

end Sys2Proof.Machine
end

