-- ==== Sys2Proof/Tests/Slice0.lean ====
section
/-! SUPPORT. Tests: the well-formedness check, the decoding of every row, one or two steps per mnemonic,
the devices and the loader, and a witness for each statement that has hypotheses. Expected values are the
spec's: 30_encoding.md R120 and R121 for the words, 95_test_vectors.md parts 3.1 to 3.13 for the rest. -/

namespace Sys2Proof.Tests

open Sys2Proof Sys2Proof.Machine Sys2Proof.Claims

set_option Elab.async false

/-! ## Well-formedness -/

theorem test_wellFormed_documented : (Instr.ldaImm 0x42#8).wellFormed = true := by decide

theorem test_wellFormed_refuses_illegal : Instr.illegal02.wellFormed = false := by decide

/-! ## Decoding, one theorem per row of the 16 by 16 map of 30_encoding.md R120 and R121 -/

theorem test_decode_row_0 :
    decodeTableWord 8 0x00 = some .brk ∧
    decodeTableWord 16 0x9C01 = some (.oraIndX 0x9C#8) ∧
    decodeTableWord 8 0x02 = some .illegal02 ∧
    decodeTableWord 8 0x03 = some .illegal03 ∧
    decodeTableWord 8 0x04 = some .illegal04 ∧
    decodeTableWord 16 0x9C05 = some (.oraZp 0x9C#8) ∧
    decodeTableWord 16 0x9C06 = some (.aslZp 0x9C#8) ∧
    decodeTableWord 8 0x07 = some .illegal07 ∧
    decodeTableWord 8 0x08 = some .php ∧
    decodeTableWord 16 0x9C09 = some (.oraImm 0x9C#8) ∧
    decodeTableWord 8 0x0A = some .aslAcc ∧
    decodeTableWord 8 0x0B = some .illegal0B ∧
    decodeTableWord 8 0x0C = some .illegal0C ∧
    decodeTableWord 24 0xA1B20D = some (.oraAbs 0xA1B2#16) ∧
    decodeTableWord 24 0xA1B20E = some (.aslAbs 0xA1B2#16) ∧
    decodeTableWord 8 0x0F = some .illegal0F := by decide

theorem test_decode_row_1 :
    decodeTableWord 16 0x9C10 = some (.bpl 0x9C#8) ∧
    decodeTableWord 16 0x9C11 = some (.oraIndY 0x9C#8) ∧
    decodeTableWord 8 0x12 = some .illegal12 ∧
    decodeTableWord 8 0x13 = some .illegal13 ∧
    decodeTableWord 8 0x14 = some .illegal14 ∧
    decodeTableWord 16 0x9C15 = some (.oraZpX 0x9C#8) ∧
    decodeTableWord 16 0x9C16 = some (.aslZpX 0x9C#8) ∧
    decodeTableWord 8 0x17 = some .illegal17 ∧
    decodeTableWord 8 0x18 = some .clc ∧
    decodeTableWord 24 0xA1B219 = some (.oraAbsY 0xA1B2#16) ∧
    decodeTableWord 8 0x1A = some .illegal1A ∧
    decodeTableWord 8 0x1B = some .illegal1B ∧
    decodeTableWord 8 0x1C = some .illegal1C ∧
    decodeTableWord 24 0xA1B21D = some (.oraAbsX 0xA1B2#16) ∧
    decodeTableWord 24 0xA1B21E = some (.aslAbsX 0xA1B2#16) ∧
    decodeTableWord 8 0x1F = some .illegal1F := by decide

theorem test_decode_row_2 :
    decodeTableWord 24 0xA1B220 = some (.jsr 0xA1B2#16) ∧
    decodeTableWord 16 0x9C21 = some (.andIndX 0x9C#8) ∧
    decodeTableWord 8 0x22 = some .illegal22 ∧
    decodeTableWord 8 0x23 = some .illegal23 ∧
    decodeTableWord 16 0x9C24 = some (.bitZp 0x9C#8) ∧
    decodeTableWord 16 0x9C25 = some (.andZp 0x9C#8) ∧
    decodeTableWord 16 0x9C26 = some (.rolZp 0x9C#8) ∧
    decodeTableWord 8 0x27 = some .illegal27 ∧
    decodeTableWord 8 0x28 = some .plp ∧
    decodeTableWord 16 0x9C29 = some (.andImm 0x9C#8) ∧
    decodeTableWord 8 0x2A = some .rolAcc ∧
    decodeTableWord 8 0x2B = some .illegal2B ∧
    decodeTableWord 24 0xA1B22C = some (.bitAbs 0xA1B2#16) ∧
    decodeTableWord 24 0xA1B22D = some (.andAbs 0xA1B2#16) ∧
    decodeTableWord 24 0xA1B22E = some (.rolAbs 0xA1B2#16) ∧
    decodeTableWord 8 0x2F = some .illegal2F := by decide

theorem test_decode_row_3 :
    decodeTableWord 16 0x9C30 = some (.bmi 0x9C#8) ∧
    decodeTableWord 16 0x9C31 = some (.andIndY 0x9C#8) ∧
    decodeTableWord 8 0x32 = some .illegal32 ∧
    decodeTableWord 8 0x33 = some .illegal33 ∧
    decodeTableWord 8 0x34 = some .illegal34 ∧
    decodeTableWord 16 0x9C35 = some (.andZpX 0x9C#8) ∧
    decodeTableWord 16 0x9C36 = some (.rolZpX 0x9C#8) ∧
    decodeTableWord 8 0x37 = some .illegal37 ∧
    decodeTableWord 8 0x38 = some .sec ∧
    decodeTableWord 24 0xA1B239 = some (.andAbsY 0xA1B2#16) ∧
    decodeTableWord 8 0x3A = some .illegal3A ∧
    decodeTableWord 8 0x3B = some .illegal3B ∧
    decodeTableWord 8 0x3C = some .illegal3C ∧
    decodeTableWord 24 0xA1B23D = some (.andAbsX 0xA1B2#16) ∧
    decodeTableWord 24 0xA1B23E = some (.rolAbsX 0xA1B2#16) ∧
    decodeTableWord 8 0x3F = some .illegal3F := by decide

theorem test_decode_row_4 :
    decodeTableWord 8 0x40 = some .rti ∧
    decodeTableWord 16 0x9C41 = some (.eorIndX 0x9C#8) ∧
    decodeTableWord 8 0x42 = some .illegal42 ∧
    decodeTableWord 8 0x43 = some .illegal43 ∧
    decodeTableWord 8 0x44 = some .illegal44 ∧
    decodeTableWord 16 0x9C45 = some (.eorZp 0x9C#8) ∧
    decodeTableWord 16 0x9C46 = some (.lsrZp 0x9C#8) ∧
    decodeTableWord 8 0x47 = some .illegal47 ∧
    decodeTableWord 8 0x48 = some .pha ∧
    decodeTableWord 16 0x9C49 = some (.eorImm 0x9C#8) ∧
    decodeTableWord 8 0x4A = some .lsrAcc ∧
    decodeTableWord 8 0x4B = some .illegal4B ∧
    decodeTableWord 24 0xA1B24C = some (.jmpAbs 0xA1B2#16) ∧
    decodeTableWord 24 0xA1B24D = some (.eorAbs 0xA1B2#16) ∧
    decodeTableWord 24 0xA1B24E = some (.lsrAbs 0xA1B2#16) ∧
    decodeTableWord 8 0x4F = some .illegal4F := by decide

theorem test_decode_row_5 :
    decodeTableWord 16 0x9C50 = some (.bvc 0x9C#8) ∧
    decodeTableWord 16 0x9C51 = some (.eorIndY 0x9C#8) ∧
    decodeTableWord 8 0x52 = some .illegal52 ∧
    decodeTableWord 8 0x53 = some .illegal53 ∧
    decodeTableWord 8 0x54 = some .illegal54 ∧
    decodeTableWord 16 0x9C55 = some (.eorZpX 0x9C#8) ∧
    decodeTableWord 16 0x9C56 = some (.lsrZpX 0x9C#8) ∧
    decodeTableWord 8 0x57 = some .illegal57 ∧
    decodeTableWord 8 0x58 = some .cli ∧
    decodeTableWord 24 0xA1B259 = some (.eorAbsY 0xA1B2#16) ∧
    decodeTableWord 8 0x5A = some .illegal5A ∧
    decodeTableWord 8 0x5B = some .illegal5B ∧
    decodeTableWord 8 0x5C = some .illegal5C ∧
    decodeTableWord 24 0xA1B25D = some (.eorAbsX 0xA1B2#16) ∧
    decodeTableWord 24 0xA1B25E = some (.lsrAbsX 0xA1B2#16) ∧
    decodeTableWord 8 0x5F = some .illegal5F := by decide

theorem test_decode_row_6 :
    decodeTableWord 8 0x60 = some .rts ∧
    decodeTableWord 16 0x9C61 = some (.adcIndX 0x9C#8) ∧
    decodeTableWord 8 0x62 = some .illegal62 ∧
    decodeTableWord 8 0x63 = some .illegal63 ∧
    decodeTableWord 8 0x64 = some .illegal64 ∧
    decodeTableWord 16 0x9C65 = some (.adcZp 0x9C#8) ∧
    decodeTableWord 16 0x9C66 = some (.rorZp 0x9C#8) ∧
    decodeTableWord 8 0x67 = some .illegal67 ∧
    decodeTableWord 8 0x68 = some .pla ∧
    decodeTableWord 16 0x9C69 = some (.adcImm 0x9C#8) ∧
    decodeTableWord 8 0x6A = some .rorAcc ∧
    decodeTableWord 8 0x6B = some .illegal6B ∧
    decodeTableWord 24 0xA1B26C = some (.jmpInd 0xA1B2#16) ∧
    decodeTableWord 24 0xA1B26D = some (.adcAbs 0xA1B2#16) ∧
    decodeTableWord 24 0xA1B26E = some (.rorAbs 0xA1B2#16) ∧
    decodeTableWord 8 0x6F = some .illegal6F := by decide

theorem test_decode_row_7 :
    decodeTableWord 16 0x9C70 = some (.bvs 0x9C#8) ∧
    decodeTableWord 16 0x9C71 = some (.adcIndY 0x9C#8) ∧
    decodeTableWord 8 0x72 = some .illegal72 ∧
    decodeTableWord 8 0x73 = some .illegal73 ∧
    decodeTableWord 8 0x74 = some .illegal74 ∧
    decodeTableWord 16 0x9C75 = some (.adcZpX 0x9C#8) ∧
    decodeTableWord 16 0x9C76 = some (.rorZpX 0x9C#8) ∧
    decodeTableWord 8 0x77 = some .illegal77 ∧
    decodeTableWord 8 0x78 = some .sei ∧
    decodeTableWord 24 0xA1B279 = some (.adcAbsY 0xA1B2#16) ∧
    decodeTableWord 8 0x7A = some .illegal7A ∧
    decodeTableWord 8 0x7B = some .illegal7B ∧
    decodeTableWord 8 0x7C = some .illegal7C ∧
    decodeTableWord 24 0xA1B27D = some (.adcAbsX 0xA1B2#16) ∧
    decodeTableWord 24 0xA1B27E = some (.rorAbsX 0xA1B2#16) ∧
    decodeTableWord 8 0x7F = some .illegal7F := by decide

theorem test_decode_row_8 :
    decodeTableWord 8 0x80 = some .illegal80 ∧
    decodeTableWord 16 0x9C81 = some (.staIndX 0x9C#8) ∧
    decodeTableWord 8 0x82 = some .illegal82 ∧
    decodeTableWord 8 0x83 = some .illegal83 ∧
    decodeTableWord 16 0x9C84 = some (.styZp 0x9C#8) ∧
    decodeTableWord 16 0x9C85 = some (.staZp 0x9C#8) ∧
    decodeTableWord 16 0x9C86 = some (.stxZp 0x9C#8) ∧
    decodeTableWord 8 0x87 = some .illegal87 ∧
    decodeTableWord 8 0x88 = some .dey ∧
    decodeTableWord 8 0x89 = some .illegal89 ∧
    decodeTableWord 8 0x8A = some .txa ∧
    decodeTableWord 8 0x8B = some .illegal8B ∧
    decodeTableWord 24 0xA1B28C = some (.styAbs 0xA1B2#16) ∧
    decodeTableWord 24 0xA1B28D = some (.staAbs 0xA1B2#16) ∧
    decodeTableWord 24 0xA1B28E = some (.stxAbs 0xA1B2#16) ∧
    decodeTableWord 8 0x8F = some .illegal8F := by decide

theorem test_decode_row_9 :
    decodeTableWord 16 0x9C90 = some (.bcc 0x9C#8) ∧
    decodeTableWord 16 0x9C91 = some (.staIndY 0x9C#8) ∧
    decodeTableWord 8 0x92 = some .illegal92 ∧
    decodeTableWord 8 0x93 = some .illegal93 ∧
    decodeTableWord 16 0x9C94 = some (.styZpX 0x9C#8) ∧
    decodeTableWord 16 0x9C95 = some (.staZpX 0x9C#8) ∧
    decodeTableWord 16 0x9C96 = some (.stxZpY 0x9C#8) ∧
    decodeTableWord 8 0x97 = some .illegal97 ∧
    decodeTableWord 8 0x98 = some .tya ∧
    decodeTableWord 24 0xA1B299 = some (.staAbsY 0xA1B2#16) ∧
    decodeTableWord 8 0x9A = some .txs ∧
    decodeTableWord 8 0x9B = some .illegal9B ∧
    decodeTableWord 8 0x9C = some .illegal9C ∧
    decodeTableWord 24 0xA1B29D = some (.staAbsX 0xA1B2#16) ∧
    decodeTableWord 8 0x9E = some .illegal9E ∧
    decodeTableWord 8 0x9F = some .illegal9F := by decide

theorem test_decode_row_A :
    decodeTableWord 16 0x9CA0 = some (.ldyImm 0x9C#8) ∧
    decodeTableWord 16 0x9CA1 = some (.ldaIndX 0x9C#8) ∧
    decodeTableWord 16 0x9CA2 = some (.ldxImm 0x9C#8) ∧
    decodeTableWord 8 0xA3 = some .illegalA3 ∧
    decodeTableWord 16 0x9CA4 = some (.ldyZp 0x9C#8) ∧
    decodeTableWord 16 0x9CA5 = some (.ldaZp 0x9C#8) ∧
    decodeTableWord 16 0x9CA6 = some (.ldxZp 0x9C#8) ∧
    decodeTableWord 8 0xA7 = some .illegalA7 ∧
    decodeTableWord 8 0xA8 = some .tay ∧
    decodeTableWord 16 0x9CA9 = some (.ldaImm 0x9C#8) ∧
    decodeTableWord 8 0xAA = some .tax ∧
    decodeTableWord 8 0xAB = some .illegalAB ∧
    decodeTableWord 24 0xA1B2AC = some (.ldyAbs 0xA1B2#16) ∧
    decodeTableWord 24 0xA1B2AD = some (.ldaAbs 0xA1B2#16) ∧
    decodeTableWord 24 0xA1B2AE = some (.ldxAbs 0xA1B2#16) ∧
    decodeTableWord 8 0xAF = some .illegalAF := by decide

theorem test_decode_row_B :
    decodeTableWord 16 0x9CB0 = some (.bcs 0x9C#8) ∧
    decodeTableWord 16 0x9CB1 = some (.ldaIndY 0x9C#8) ∧
    decodeTableWord 8 0xB2 = some .illegalB2 ∧
    decodeTableWord 8 0xB3 = some .illegalB3 ∧
    decodeTableWord 16 0x9CB4 = some (.ldyZpX 0x9C#8) ∧
    decodeTableWord 16 0x9CB5 = some (.ldaZpX 0x9C#8) ∧
    decodeTableWord 16 0x9CB6 = some (.ldxZpY 0x9C#8) ∧
    decodeTableWord 8 0xB7 = some .illegalB7 ∧
    decodeTableWord 8 0xB8 = some .clv ∧
    decodeTableWord 24 0xA1B2B9 = some (.ldaAbsY 0xA1B2#16) ∧
    decodeTableWord 8 0xBA = some .tsx ∧
    decodeTableWord 8 0xBB = some .illegalBB ∧
    decodeTableWord 24 0xA1B2BC = some (.ldyAbsX 0xA1B2#16) ∧
    decodeTableWord 24 0xA1B2BD = some (.ldaAbsX 0xA1B2#16) ∧
    decodeTableWord 24 0xA1B2BE = some (.ldxAbsY 0xA1B2#16) ∧
    decodeTableWord 8 0xBF = some .illegalBF := by decide

theorem test_decode_row_C :
    decodeTableWord 16 0x9CC0 = some (.cpyImm 0x9C#8) ∧
    decodeTableWord 16 0x9CC1 = some (.cmpIndX 0x9C#8) ∧
    decodeTableWord 8 0xC2 = some .illegalC2 ∧
    decodeTableWord 8 0xC3 = some .illegalC3 ∧
    decodeTableWord 16 0x9CC4 = some (.cpyZp 0x9C#8) ∧
    decodeTableWord 16 0x9CC5 = some (.cmpZp 0x9C#8) ∧
    decodeTableWord 16 0x9CC6 = some (.decZp 0x9C#8) ∧
    decodeTableWord 8 0xC7 = some .illegalC7 ∧
    decodeTableWord 8 0xC8 = some .iny ∧
    decodeTableWord 16 0x9CC9 = some (.cmpImm 0x9C#8) ∧
    decodeTableWord 8 0xCA = some .dex ∧
    decodeTableWord 8 0xCB = some .illegalCB ∧
    decodeTableWord 24 0xA1B2CC = some (.cpyAbs 0xA1B2#16) ∧
    decodeTableWord 24 0xA1B2CD = some (.cmpAbs 0xA1B2#16) ∧
    decodeTableWord 24 0xA1B2CE = some (.decAbs 0xA1B2#16) ∧
    decodeTableWord 8 0xCF = some .illegalCF := by decide

theorem test_decode_row_D :
    decodeTableWord 16 0x9CD0 = some (.bne 0x9C#8) ∧
    decodeTableWord 16 0x9CD1 = some (.cmpIndY 0x9C#8) ∧
    decodeTableWord 8 0xD2 = some .illegalD2 ∧
    decodeTableWord 8 0xD3 = some .illegalD3 ∧
    decodeTableWord 8 0xD4 = some .illegalD4 ∧
    decodeTableWord 16 0x9CD5 = some (.cmpZpX 0x9C#8) ∧
    decodeTableWord 16 0x9CD6 = some (.decZpX 0x9C#8) ∧
    decodeTableWord 8 0xD7 = some .illegalD7 ∧
    decodeTableWord 8 0xD8 = some .cld ∧
    decodeTableWord 24 0xA1B2D9 = some (.cmpAbsY 0xA1B2#16) ∧
    decodeTableWord 8 0xDA = some .illegalDA ∧
    decodeTableWord 8 0xDB = some .illegalDB ∧
    decodeTableWord 8 0xDC = some .illegalDC ∧
    decodeTableWord 24 0xA1B2DD = some (.cmpAbsX 0xA1B2#16) ∧
    decodeTableWord 24 0xA1B2DE = some (.decAbsX 0xA1B2#16) ∧
    decodeTableWord 8 0xDF = some .illegalDF := by decide

theorem test_decode_row_E :
    decodeTableWord 16 0x9CE0 = some (.cpxImm 0x9C#8) ∧
    decodeTableWord 16 0x9CE1 = some (.sbcIndX 0x9C#8) ∧
    decodeTableWord 8 0xE2 = some .illegalE2 ∧
    decodeTableWord 8 0xE3 = some .illegalE3 ∧
    decodeTableWord 16 0x9CE4 = some (.cpxZp 0x9C#8) ∧
    decodeTableWord 16 0x9CE5 = some (.sbcZp 0x9C#8) ∧
    decodeTableWord 16 0x9CE6 = some (.incZp 0x9C#8) ∧
    decodeTableWord 8 0xE7 = some .illegalE7 ∧
    decodeTableWord 8 0xE8 = some .inx ∧
    decodeTableWord 16 0x9CE9 = some (.sbcImm 0x9C#8) ∧
    decodeTableWord 8 0xEA = some .nop ∧
    decodeTableWord 8 0xEB = some .illegalEB ∧
    decodeTableWord 24 0xA1B2EC = some (.cpxAbs 0xA1B2#16) ∧
    decodeTableWord 24 0xA1B2ED = some (.sbcAbs 0xA1B2#16) ∧
    decodeTableWord 24 0xA1B2EE = some (.incAbs 0xA1B2#16) ∧
    decodeTableWord 8 0xEF = some .illegalEF := by decide

theorem test_decode_row_F :
    decodeTableWord 16 0x9CF0 = some (.beq 0x9C#8) ∧
    decodeTableWord 16 0x9CF1 = some (.sbcIndY 0x9C#8) ∧
    decodeTableWord 8 0xF2 = some .illegalF2 ∧
    decodeTableWord 8 0xF3 = some .illegalF3 ∧
    decodeTableWord 8 0xF4 = some .illegalF4 ∧
    decodeTableWord 16 0x9CF5 = some (.sbcZpX 0x9C#8) ∧
    decodeTableWord 16 0x9CF6 = some (.incZpX 0x9C#8) ∧
    decodeTableWord 8 0xF7 = some .illegalF7 ∧
    decodeTableWord 8 0xF8 = some .sed ∧
    decodeTableWord 24 0xA1B2F9 = some (.sbcAbsY 0xA1B2#16) ∧
    decodeTableWord 8 0xFA = some .illegalFA ∧
    decodeTableWord 8 0xFB = some .illegalFB ∧
    decodeTableWord 8 0xFC = some .illegalFC ∧
    decodeTableWord 24 0xA1B2FD = some (.sbcAbsX 0xA1B2#16) ∧
    decodeTableWord 24 0xA1B2FE = some (.incAbsX 0xA1B2#16) ∧
    decodeTableWord 8 0xFF = some .illegalFF := by decide

/-! ## One step on a small machine -/

/-- A machine after reset with `PC` at `pc`, the bytes of an instruction there and the vectors of
95_test_vectors.md part 1. -/
def bench (pc : Word) (bytes : List Byte) : State :=
  placeBytes pc bytes { State.reset with
    pc := pc
    cart := { Cartridge.blank with prgRom := [(0x3FFB, 0x90#8), (0x3FFD, 0x80#8), (0x3FFF, 0xA0#8)] } }

/-- The five 8-bit registers. -/
def regs (s : State) : List Byte := [s.a, s.x, s.y, s.sp, s.p]

/-- One step completes, and the state after it passes the check. -/
abbrev StepEnds (s : State) (check : State → Prop) [∀ t, Decidable (check t)] : Prop :=
  (match step s with
   | .next t => decide (check t)
   | .fault _ => false
   | .refused _ => false) = true

theorem test_lda_fff0_x :
    StepEnds { bench 0x8000#16 [0xBD#8, 0xF0#8, 0xFF#8] with x := 0x20#8, ram := [(0x10, 0x33#8)] } fun t =>
      regs t = [0x33#8, 0x20#8, 0x00#8, 0xFD#8, 0x24#8] ∧ t.pc = 0x8003#16 ∧ t.cycles = 8 + 5 := by decide

theorem test_lda_ff_y :
    StepEnds { bench 0x8000#16 [0xB1#8, 0xFF#8] with y := 0x01#8, ram := [(0x0, 0x03#8), (0x301, 0x5A#8)] } fun t =>
      regs t = [0x5A#8, 0x00#8, 0x01#8, 0xFD#8, 0x24#8] ∧ t.pc = 0x8002#16 ∧ t.cycles = 8 + 5 := by decide

theorem test_ldx_f0_y :
    StepEnds { bench 0x8000#16 [0xB6#8, 0xF0#8] with y := 0x20#8, ram := [(0x10, 0x81#8)] } fun t =>
      regs t = [0x00#8, 0x81#8, 0x20#8, 0xFD#8, 0xA4#8] ∧ t.pc = 0x8002#16 ∧ t.cycles = 8 + 4 := by decide

theorem test_ldy_10_x :
    StepEnds { bench 0x8000#16 [0xB4#8, 0x10#8] with x := 0xFF#8, y := 0x05#8 } fun t =>
      regs t = [0x00#8, 0xFF#8, 0x00#8, 0xFD#8, 0x26#8] ∧ t.pc = 0x8002#16 ∧ t.cycles = 8 + 4 := by decide

theorem test_sta_12f0_x :
    StepEnds { bench 0x8000#16 [0x9D#8, 0xF0#8, 0x12#8] with a := 0x42#8, x := 0x20#8 } fun t =>
      regs t = [0x42#8, 0x20#8, 0x00#8, 0xFD#8, 0x24#8] ∧ t.pc = 0x8003#16 ∧ t.cycles = 8 + 5 ∧ t.byteAt 0x1310#16 = 0x42#8 := by decide

theorem test_sta_0800 :
    StepEnds { bench 0x8000#16 [0x8D#8, 0x00#8, 0x08#8] with a := 0x99#8 } fun t =>
      regs t = [0x99#8, 0x00#8, 0x00#8, 0xFD#8, 0x24#8] ∧ t.pc = 0x8003#16 ∧ t.cycles = 8 + 4 ∧ t.byteAt 0x0000#16 = 0x99#8 := by decide

theorem test_stx_f0_y :
    StepEnds { bench 0x8000#16 [0x96#8, 0xF0#8] with x := 0x33#8, y := 0x20#8 } fun t =>
      regs t = [0x00#8, 0x33#8, 0x20#8, 0xFD#8, 0x24#8] ∧ t.pc = 0x8002#16 ∧ t.cycles = 8 + 4 ∧ t.byteAt 0x0010#16 = 0x33#8 := by decide

theorem test_sty_10_x :
    StepEnds { bench 0x8000#16 [0x94#8, 0x10#8] with x := 0x01#8, y := 0x44#8 } fun t =>
      regs t = [0x00#8, 0x01#8, 0x44#8, 0xFD#8, 0x24#8] ∧ t.pc = 0x8002#16 ∧ t.cycles = 8 + 4 ∧ t.byteAt 0x0011#16 = 0x44#8 := by decide

theorem test_tax :
    StepEnds { bench 0x8000#16 [0xAA#8] with a := 0x80#8 } fun t =>
      regs t = [0x80#8, 0x80#8, 0x00#8, 0xFD#8, 0xA4#8] ∧ t.pc = 0x8001#16 ∧ t.cycles = 8 + 2 := by decide

theorem test_tay :
    StepEnds { bench 0x8000#16 [0xA8#8] with a := 0x00#8, y := 0x09#8 } fun t =>
      regs t = [0x00#8, 0x00#8, 0x00#8, 0xFD#8, 0x26#8] ∧ t.pc = 0x8001#16 ∧ t.cycles = 8 + 2 := by decide

theorem test_txa :
    StepEnds { bench 0x8000#16 [0x8A#8] with a := 0x80#8, x := 0x7F#8, p := 0xA4#8 } fun t =>
      regs t = [0x7F#8, 0x7F#8, 0x00#8, 0xFD#8, 0x24#8] ∧ t.pc = 0x8001#16 ∧ t.cycles = 8 + 2 := by decide

theorem test_tya :
    StepEnds { bench 0x8000#16 [0x98#8] with a := 0x01#8, y := 0x00#8 } fun t =>
      regs t = [0x00#8, 0x00#8, 0x00#8, 0xFD#8, 0x26#8] ∧ t.pc = 0x8001#16 ∧ t.cycles = 8 + 2 := by decide

theorem test_tsx :
    StepEnds { bench 0x8000#16 [0xBA#8] with sp := 0xFD#8 } fun t =>
      regs t = [0x00#8, 0xFD#8, 0x00#8, 0xFD#8, 0xA4#8] ∧ t.pc = 0x8001#16 ∧ t.cycles = 8 + 2 := by decide

theorem test_txs :
    StepEnds { bench 0x8000#16 [0x9A#8] with x := 0x00#8 } fun t =>
      regs t = [0x00#8, 0x00#8, 0x00#8, 0x00#8, 0x24#8] ∧ t.pc = 0x8001#16 ∧ t.cycles = 8 + 2 := by decide

theorem test_adc_imm_01 :
    StepEnds { bench 0x8000#16 [0x69#8, 0x01#8] with a := 0x7F#8 } fun t =>
      regs t = [0x80#8, 0x00#8, 0x00#8, 0xFD#8, 0xE4#8] ∧ t.pc = 0x8002#16 ∧ t.cycles = 8 + 2 := by decide

theorem test_adc_imm_ff :
    StepEnds { bench 0x8000#16 [0x69#8, 0xFF#8] with a := 0xFF#8, p := 0x25#8 } fun t =>
      regs t = [0xFF#8, 0x00#8, 0x00#8, 0xFD#8, 0xA5#8] ∧ t.pc = 0x8002#16 ∧ t.cycles = 8 + 2 := by decide

theorem test_sbc_imm_01 :
    StepEnds { bench 0x8000#16 [0xE9#8, 0x01#8] with a := 0x03#8, p := 0x24#8 } fun t =>
      regs t = [0x01#8, 0x00#8, 0x00#8, 0xFD#8, 0x25#8] ∧ t.pc = 0x8002#16 ∧ t.cycles = 8 + 2 := by decide

theorem test_sbc_imm_01_again :
    StepEnds { bench 0x8000#16 [0xE9#8, 0x01#8] with a := 0x80#8, p := 0x25#8 } fun t =>
      regs t = [0x7F#8, 0x00#8, 0x00#8, 0xFD#8, 0x65#8] ∧ t.pc = 0x8002#16 ∧ t.cycles = 8 + 2 := by decide

theorem test_and_imm_0f :
    StepEnds { bench 0x8000#16 [0x29#8, 0x0F#8] with a := 0xF0#8 } fun t =>
      regs t = [0x00#8, 0x00#8, 0x00#8, 0xFD#8, 0x26#8] ∧ t.pc = 0x8002#16 ∧ t.cycles = 8 + 2 := by decide

theorem test_ora_imm_80 :
    StepEnds { bench 0x8000#16 [0x09#8, 0x80#8] with a := 0x01#8 } fun t =>
      regs t = [0x81#8, 0x00#8, 0x00#8, 0xFD#8, 0xA4#8] ∧ t.pc = 0x8002#16 ∧ t.cycles = 8 + 2 := by decide

theorem test_eor_imm_ff :
    StepEnds { bench 0x8000#16 [0x49#8, 0xFF#8] with a := 0x0F#8 } fun t =>
      regs t = [0xF0#8, 0x00#8, 0x00#8, 0xFD#8, 0xA4#8] ∧ t.pc = 0x8002#16 ∧ t.cycles = 8 + 2 := by decide

theorem test_cmp_imm_20 :
    StepEnds { bench 0x8000#16 [0xC9#8, 0x20#8] with a := 0x10#8 } fun t =>
      regs t = [0x10#8, 0x00#8, 0x00#8, 0xFD#8, 0xA4#8] ∧ t.pc = 0x8002#16 ∧ t.cycles = 8 + 2 := by decide

theorem test_cmp_imm_01 :
    StepEnds { bench 0x8000#16 [0xC9#8, 0x01#8] with a := 0x81#8 } fun t =>
      regs t = [0x81#8, 0x00#8, 0x00#8, 0xFD#8, 0xA5#8] ∧ t.pc = 0x8002#16 ∧ t.cycles = 8 + 2 := by decide

theorem test_cpx_imm_05 :
    StepEnds { bench 0x8000#16 [0xE0#8, 0x05#8] with x := 0x06#8 } fun t =>
      regs t = [0x00#8, 0x06#8, 0x00#8, 0xFD#8, 0x25#8] ∧ t.pc = 0x8002#16 ∧ t.cycles = 8 + 2 := by decide

theorem test_cpy_imm_ff :
    StepEnds { bench 0x8000#16 [0xC0#8, 0xFF#8] with y := 0x00#8 } fun t =>
      regs t = [0x00#8, 0x00#8, 0x00#8, 0xFD#8, 0x24#8] ∧ t.pc = 0x8002#16 ∧ t.cycles = 8 + 2 := by decide

theorem test_bit_10 :
    StepEnds { bench 0x8000#16 [0x24#8, 0x10#8] with a := 0x01#8, ram := [(0x10, 0xC0#8)] } fun t =>
      regs t = [0x01#8, 0x00#8, 0x00#8, 0xFD#8, 0xE6#8] ∧ t.pc = 0x8002#16 ∧ t.cycles = 8 + 3 := by decide

theorem test_bit_10_again :
    StepEnds { bench 0x8000#16 [0x24#8, 0x10#8] with a := 0xFF#8, p := 0xE4#8, ram := [(0x10, 0x3F#8)] } fun t =>
      regs t = [0xFF#8, 0x00#8, 0x00#8, 0xFD#8, 0x24#8] ∧ t.pc = 0x8002#16 ∧ t.cycles = 8 + 3 := by decide

theorem test_inc_12f0_x :
    StepEnds { bench 0x8000#16 [0xFE#8, 0xF0#8, 0x12#8] with x := 0x20#8, ram := [(0x310, 0x7F#8)] } fun t =>
      regs t = [0x00#8, 0x20#8, 0x00#8, 0xFD#8, 0xA4#8] ∧ t.pc = 0x8003#16 ∧ t.cycles = 8 + 7 ∧ t.byteAt 0x1310#16 = 0x80#8 := by decide

theorem test_dec_10 :
    StepEnds (bench 0x8000#16 [0xC6#8, 0x10#8]) fun t =>
      regs t = [0x00#8, 0x00#8, 0x00#8, 0xFD#8, 0xA4#8] ∧ t.pc = 0x8002#16 ∧ t.cycles = 8 + 5 ∧ t.byteAt 0x0010#16 = 0xFF#8 := by decide

theorem test_inx :
    StepEnds { bench 0x8000#16 [0xE8#8] with x := 0xFF#8 } fun t =>
      regs t = [0x00#8, 0x00#8, 0x00#8, 0xFD#8, 0x26#8] ∧ t.pc = 0x8001#16 ∧ t.cycles = 8 + 2 := by decide

theorem test_iny :
    StepEnds { bench 0x8000#16 [0xC8#8] with y := 0x7F#8 } fun t =>
      regs t = [0x00#8, 0x00#8, 0x80#8, 0xFD#8, 0xA4#8] ∧ t.pc = 0x8001#16 ∧ t.cycles = 8 + 2 := by decide

theorem test_dex :
    StepEnds { bench 0x8000#16 [0xCA#8] with x := 0x00#8 } fun t =>
      regs t = [0x00#8, 0xFF#8, 0x00#8, 0xFD#8, 0xA4#8] ∧ t.pc = 0x8001#16 ∧ t.cycles = 8 + 2 := by decide

theorem test_dey :
    StepEnds { bench 0x8000#16 [0x88#8] with y := 0x01#8 } fun t =>
      regs t = [0x00#8, 0x00#8, 0x00#8, 0xFD#8, 0x26#8] ∧ t.pc = 0x8001#16 ∧ t.cycles = 8 + 2 := by decide

theorem test_asl_a :
    StepEnds { bench 0x8000#16 [0x0A#8] with a := 0x40#8, p := 0x25#8 } fun t =>
      regs t = [0x80#8, 0x00#8, 0x00#8, 0xFD#8, 0xA4#8] ∧ t.pc = 0x8001#16 ∧ t.cycles = 8 + 2 := by decide

theorem test_asl_10 :
    StepEnds { bench 0x8000#16 [0x06#8, 0x10#8] with ram := [(0x10, 0x55#8)] } fun t =>
      regs t = [0x00#8, 0x00#8, 0x00#8, 0xFD#8, 0xA4#8] ∧ t.pc = 0x8002#16 ∧ t.cycles = 8 + 5 ∧ t.byteAt 0x0010#16 = 0xAA#8 := by decide

theorem test_lsr_12f0_x :
    StepEnds { bench 0x8000#16 [0x5E#8, 0xF0#8, 0x12#8] with x := 0x20#8, ram := [(0x310, 0x02#8)] } fun t =>
      regs t = [0x00#8, 0x20#8, 0x00#8, 0xFD#8, 0x24#8] ∧ t.pc = 0x8003#16 ∧ t.cycles = 8 + 7 ∧ t.byteAt 0x1310#16 = 0x01#8 := by decide

theorem test_rol_a :
    StepEnds { bench 0x8000#16 [0x2A#8] with a := 0x80#8, p := 0x25#8 } fun t =>
      regs t = [0x01#8, 0x00#8, 0x00#8, 0xFD#8, 0x25#8] ∧ t.pc = 0x8001#16 ∧ t.cycles = 8 + 2 := by decide

theorem test_rol_10 :
    StepEnds { bench 0x8000#16 [0x26#8, 0x10#8] with ram := [(0x10, 0xFF#8)] } fun t =>
      regs t = [0x00#8, 0x00#8, 0x00#8, 0xFD#8, 0xA5#8] ∧ t.pc = 0x8002#16 ∧ t.cycles = 8 + 5 ∧ t.byteAt 0x0010#16 = 0xFE#8 := by decide

theorem test_ror_a :
    StepEnds { bench 0x8000#16 [0x6A#8] with a := 0x01#8, p := 0x25#8 } fun t =>
      regs t = [0x80#8, 0x00#8, 0x00#8, 0xFD#8, 0xA5#8] ∧ t.pc = 0x8001#16 ∧ t.cycles = 8 + 2 := by decide

theorem test_ror_10_x :
    StepEnds { bench 0x8000#16 [0x76#8, 0x10#8] with x := 0x01#8, ram := [(0x11, 0x02#8)] } fun t =>
      regs t = [0x00#8, 0x01#8, 0x00#8, 0xFD#8, 0x24#8] ∧ t.pc = 0x8002#16 ∧ t.cycles = 8 + 6 ∧ t.byteAt 0x0011#16 = 0x01#8 := by decide

theorem test_jmp_1234 :
    StepEnds (bench 0x8000#16 [0x4C#8, 0x34#8, 0x12#8]) fun t =>
      regs t = [0x00#8, 0x00#8, 0x00#8, 0xFD#8, 0x24#8] ∧ t.pc = 0x1234#16 ∧ t.cycles = 8 + 3 := by decide

theorem test_jmp_02ff :
    StepEnds { bench 0x8000#16 [0x6C#8, 0xFF#8, 0x02#8] with ram := [(0x200, 0x12#8), (0x2FF, 0x34#8), (0x300, 0x56#8)] } fun t =>
      regs t = [0x00#8, 0x00#8, 0x00#8, 0xFD#8, 0x24#8] ∧ t.pc = 0x1234#16 ∧ t.cycles = 8 + 5 := by decide

theorem test_jsr_9000 :
    StepEnds (bench 0x8000#16 [0x20#8, 0x00#8, 0x90#8]) fun t =>
      regs t = [0x00#8, 0x00#8, 0x00#8, 0xFB#8, 0x24#8] ∧ t.pc = 0x9000#16 ∧ t.cycles = 8 + 6 ∧ t.byteAt 0x01FD#16 = 0x80#8 ∧ t.byteAt 0x01FC#16 = 0x02#8 := by decide

theorem test_jsr_9000_again :
    StepEnds { bench 0x8000#16 [0x20#8, 0x00#8, 0x90#8] with sp := 0x00#8 } fun t =>
      regs t = [0x00#8, 0x00#8, 0x00#8, 0xFE#8, 0x24#8] ∧ t.pc = 0x9000#16 ∧ t.cycles = 8 + 6 ∧ t.byteAt 0x0100#16 = 0x80#8 ∧ t.byteAt 0x01FF#16 = 0x02#8 := by decide

theorem test_rts :
    StepEnds { bench 0x8000#16 [0x60#8] with sp := 0xFB#8, ram := [(0x1FC, 0xFF#8), (0x1FD, 0xFF#8)] } fun t =>
      regs t = [0x00#8, 0x00#8, 0x00#8, 0xFD#8, 0x24#8] ∧ t.pc = 0x0000#16 ∧ t.cycles = 8 + 6 := by decide

theorem test_bne_plus_2 :
    StepEnds { bench 0x8000#16 [0xD0#8, 0x02#8] with p := 0x26#8 } fun t =>
      regs t = [0x00#8, 0x00#8, 0x00#8, 0xFD#8, 0x26#8] ∧ t.pc = 0x8002#16 ∧ t.cycles = 8 + 2 := by decide

theorem test_bne_minus_2 :
    StepEnds { bench 0x8000#16 [0xD0#8, 0xFE#8] with p := 0x24#8 } fun t =>
      regs t = [0x00#8, 0x00#8, 0x00#8, 0xFD#8, 0x24#8] ∧ t.pc = 0x8000#16 ∧ t.cycles = 8 + 3 := by decide

theorem test_bcc_plus_1 :
    StepEnds (bench 0x80FD#16 [0x90#8, 0x01#8]) fun t =>
      regs t = [0x00#8, 0x00#8, 0x00#8, 0xFD#8, 0x24#8] ∧ t.pc = 0x8100#16 ∧ t.cycles = 8 + 4 := by decide

theorem test_beq_plus_127 :
    StepEnds { bench 0x8000#16 [0xF0#8, 0x7F#8] with p := 0x26#8 } fun t =>
      regs t = [0x00#8, 0x00#8, 0x00#8, 0xFD#8, 0x26#8] ∧ t.pc = 0x8081#16 ∧ t.cycles = 8 + 3 := by decide

theorem test_bcs_minus_3 :
    StepEnds { bench 0x8100#16 [0xB0#8, 0xFD#8] with p := 0x25#8 } fun t =>
      regs t = [0x00#8, 0x00#8, 0x00#8, 0xFD#8, 0x25#8] ∧ t.pc = 0x80FF#16 ∧ t.cycles = 8 + 4 := by decide

theorem test_bmi_plus_16 :
    StepEnds { bench 0x8000#16 [0x30#8, 0x10#8] with p := 0xA4#8 } fun t =>
      regs t = [0x00#8, 0x00#8, 0x00#8, 0xFD#8, 0xA4#8] ∧ t.pc = 0x8012#16 ∧ t.cycles = 8 + 3 := by decide

theorem test_bpl_plus_16 :
    StepEnds (bench 0x8000#16 [0x10#8, 0x10#8]) fun t =>
      regs t = [0x00#8, 0x00#8, 0x00#8, 0xFD#8, 0x24#8] ∧ t.pc = 0x8012#16 ∧ t.cycles = 8 + 3 := by decide

theorem test_bvc_plus_16 :
    StepEnds (bench 0x8000#16 [0x50#8, 0x10#8]) fun t =>
      regs t = [0x00#8, 0x00#8, 0x00#8, 0xFD#8, 0x24#8] ∧ t.pc = 0x8012#16 ∧ t.cycles = 8 + 3 := by decide

theorem test_bvs_plus_16 :
    StepEnds { bench 0x8000#16 [0x70#8, 0x10#8] with p := 0x24#8 } fun t =>
      regs t = [0x00#8, 0x00#8, 0x00#8, 0xFD#8, 0x24#8] ∧ t.pc = 0x8002#16 ∧ t.cycles = 8 + 2 := by decide

theorem test_pha :
    StepEnds { bench 0x8000#16 [0x48#8] with a := 0x42#8, sp := 0x00#8 } fun t =>
      regs t = [0x42#8, 0x00#8, 0x00#8, 0xFF#8, 0x24#8] ∧ t.pc = 0x8001#16 ∧ t.cycles = 8 + 3 ∧ t.byteAt 0x0100#16 = 0x42#8 := by decide

theorem test_pla :
    StepEnds { bench 0x8000#16 [0x68#8] with a := 0x01#8, sp := 0xFF#8 } fun t =>
      regs t = [0x00#8, 0x00#8, 0x00#8, 0x00#8, 0x26#8] ∧ t.pc = 0x8001#16 ∧ t.cycles = 8 + 4 := by decide

theorem test_php :
    StepEnds { bench 0x8000#16 [0x08#8] with p := 0xE5#8 } fun t =>
      regs t = [0x00#8, 0x00#8, 0x00#8, 0xFC#8, 0xE5#8] ∧ t.pc = 0x8001#16 ∧ t.cycles = 8 + 3 ∧ t.byteAt 0x01FD#16 = 0xF5#8 := by decide

theorem test_plp :
    StepEnds { bench 0x8000#16 [0x28#8] with sp := 0xFC#8, ram := [(0x1FD, 0xFF#8)] } fun t =>
      regs t = [0x00#8, 0x00#8, 0x00#8, 0xFD#8, 0xEF#8] ∧ t.pc = 0x8001#16 ∧ t.cycles = 8 + 4 := by decide

theorem test_clc :
    StepEnds { bench 0x8000#16 [0x18#8] with p := 0x25#8 } fun t =>
      regs t = [0x00#8, 0x00#8, 0x00#8, 0xFD#8, 0x24#8] ∧ t.pc = 0x8001#16 ∧ t.cycles = 8 + 2 := by decide

theorem test_sec :
    StepEnds { bench 0x8000#16 [0x38#8] with p := 0x24#8 } fun t =>
      regs t = [0x00#8, 0x00#8, 0x00#8, 0xFD#8, 0x25#8] ∧ t.pc = 0x8001#16 ∧ t.cycles = 8 + 2 := by decide

theorem test_cli :
    StepEnds { bench 0x8000#16 [0x58#8] with p := 0x24#8 } fun t =>
      regs t = [0x00#8, 0x00#8, 0x00#8, 0xFD#8, 0x20#8] ∧ t.pc = 0x8001#16 ∧ t.cycles = 8 + 2 := by decide

theorem test_sei :
    StepEnds { bench 0x8000#16 [0x78#8] with p := 0x20#8 } fun t =>
      regs t = [0x00#8, 0x00#8, 0x00#8, 0xFD#8, 0x24#8] ∧ t.pc = 0x8001#16 ∧ t.cycles = 8 + 2 := by decide

theorem test_clv :
    StepEnds { bench 0x8000#16 [0xB8#8] with p := 0x64#8 } fun t =>
      regs t = [0x00#8, 0x00#8, 0x00#8, 0xFD#8, 0x24#8] ∧ t.pc = 0x8001#16 ∧ t.cycles = 8 + 2 := by decide

theorem test_cld :
    StepEnds { bench 0x8000#16 [0xD8#8] with p := 0x2C#8 } fun t =>
      regs t = [0x00#8, 0x00#8, 0x00#8, 0xFD#8, 0x24#8] ∧ t.pc = 0x8001#16 ∧ t.cycles = 8 + 2 := by decide

theorem test_sed :
    StepEnds { bench 0x8000#16 [0xF8#8] with p := 0x24#8 } fun t =>
      regs t = [0x00#8, 0x00#8, 0x00#8, 0xFD#8, 0x2C#8] ∧ t.pc = 0x8001#16 ∧ t.cycles = 8 + 2 := by decide

theorem test_nop :
    StepEnds (bench 0x8000#16 [0xEA#8]) fun t =>
      regs t = [0x00#8, 0x00#8, 0x00#8, 0xFD#8, 0x24#8] ∧ t.pc = 0x8001#16 ∧ t.cycles = 8 + 2 := by decide

theorem test_brk :
    StepEnds { bench 0x8000#16 [0x00#8] with p := 0xE1#8 } fun t =>
      regs t = [0x00#8, 0x00#8, 0x00#8, 0xFA#8, 0xE5#8] ∧ t.pc = 0xA000#16 ∧ t.cycles = 8 + 7 ∧ t.byteAt 0x01FB#16 = 0xF1#8 := by decide

theorem test_rti :
    StepEnds { bench 0x8000#16 [0x40#8] with sp := 0xFA#8, ram := [(0x1FB, 0xF3#8), (0x1FC, 0x02#8), (0x1FD, 0x80#8)] } fun t =>
      regs t = [0x00#8, 0x00#8, 0x00#8, 0xFD#8, 0xE3#8] ∧ t.pc = 0x8002#16 ∧ t.cycles = 8 + 6 := by decide

/-! ## Faults and exceptions -/

/-- The first illegal byte raises IllegalOpcode with its own address (60_exceptions.md R251). -/
theorem test_illegal_byte_faults :
    (match step (bench 0x8000#16 [0x02#8]) with
     | .fault r => decide (r = .illegalOpcode 0x02#8 0x8000#16)
     | _ => false) = true := by decide

/-- 95_test_vectors.md part 3.6, step 2: the IRQ sequence after CLI. -/
theorem test_irq_sequence :
    StepEnds { bench 0x8001#16 [0xEA#8] with irqLine := true, p := 0x20#8 } fun t =>
      regs t = [0x00#8, 0x00#8, 0x00#8, 0xFA#8, 0x24#8] ∧ t.pc = 0xA000#16 ∧ t.cycles = 8 + 7 ∧
      t.ppu.dot = 21 ∧ t.byteAt 0x01FD#16 = 0x80#8 ∧ t.byteAt 0x01FC#16 = 0x01#8 ∧
      t.byteAt 0x01FB#16 = 0x20#8 := by decide +kernel

/-- 95_test_vectors.md part 3.6, second table, step 2: NMI before IRQ. -/
theorem test_nmi_before_irq :
    StepEnds (let s := bench 0x8001#16 [0xEA#8]
              { s with irqLine := true, p := 0x20#8, ppu := { s.ppu with nmiPending := true } }) fun t =>
      t.pc = 0x9000#16 ∧ t.sp = 0xFA#8 ∧ t.p = 0x24#8 ∧ t.ppu.nmiPending = false ∧
      t.byteAt 0x01FB#16 = 0x20#8 := by decide +kernel

/-- 95_test_vectors.md part 3.6: with `I = 1` the line is ignored and the instruction runs. -/
theorem test_masked_irq_runs_the_instruction :
    StepEnds { bench 0x8000#16 [0xEA#8] with irqLine := true } fun t =>
      t.pc = 0x8001#16 ∧ t.sp = 0xFD#8 ∧ t.cycles = 8 + 2 := by decide

/-! ## The devices -/

/-- 95_test_vectors.md part 3.7, row 1: the copy and the cycles of the storing instruction. -/
theorem test_oam_dma :
    (let s := { bench 0x8005#16 [] with
                a := 0x02#8, cycles := 10, ram := [(0x200, 0xFF#8), (0x2F0, 0x0F#8)],
                ppu := { Ppu.powerOn with oamAddr := 0x10#8 } }
     match exec (.staAbs 0x4014#16) s with
     | .next t => decide (t.cycles = 527 ∧ t.ppu.oam = [(0x00, 0x0F#8), (0x10, 0xFF#8)] ∧ t.ppu.oamAddr = 0x10#8)
     | _ => false) = true := by decide +kernel

/-- 95_test_vectors.md part 3.8: ten reads after the latch with buttons A5. -/
theorem test_controller_reads :
    let s0 := setControllerInput 0 0xA5#8 State.reset
    let s1 := memWrite 0x4016#16 0x00#8 (memWrite 0x4016#16 0x01#8 s0)
    (busBytes 1 0x4016#16 s1).1 = [0x41#8] ∧
    (memRead 0x4016#16 (memRead 0x4016#16 s1).2).1 = 0x40#8 ∧
    (Nat.repeat Controller.afterRead 8 s1.pad1).shiftIndex = 8 := by decide +kernel

/-- 95_test_vectors.md part 3.9: 2000=03, 2005=7D, 2005=5E, 2006=3D, 2006=F0. -/
theorem test_scroll_register_sequence :
    let w (n : Nat) (v : Byte) (p : Ppu) : Ppu := (ppuRegWrite n v (State.reset.setPpu p)).ppu
    let p1 := w 5 0x7D#8 (w 0 0x03#8 Ppu.powerOn)
    let p2 := w 5 0x5E#8 p1
    let p3 := w 6 0x3D#8 p2
    let p4 := w 6 0xF0#8 p3
    p1.t = 0x0C0F#15 ∧ p1.fineX = 5#3 ∧ p2.t = 0x6D6F#15 ∧ p3.t = 0x3D6F#15 ∧ p3.v = 0x0000#15 ∧
    p4.t = 0x3DF0#15 ∧ p4.v = 0x3DF0#15 ∧ p4.writeToggle = false := by decide +kernel

/-- 95_test_vectors.md part 3.9: a read of 0x2002 with `status = E0`, twice. -/
theorem test_status_read_clears_vblank :
    let s := State.reset.setPpu { Ppu.powerOn with status := 0xE0#8, writeToggle := true }
    let r := memRead 0x2002#16 s
    r.1 = 0xE0#8 ∧ r.2.ppu.status = 0x60#8 ∧ r.2.ppu.writeToggle = false ∧
    (memRead 0x2002#16 r.2).1 = 0x60#8 := by decide +kernel

/-- 95_test_vectors.md part 3.9: reads of 0x2007 through the buffer, Vertical mirroring. -/
theorem test_data_port_buffer :
    let s := State.reset.setPpu { Ppu.powerOn with vram := [(0x108, 0xAB#8), (0x109, 0xCD#8)], v := 0x2108#15 }
    let r1 := memRead 0x2007#16 s
    let r2 := memRead 0x2007#16 r1.2
    let r3 := memRead 0x2007#16 r2.2
    r1.1 = 0x00#8 ∧ r2.1 = 0xAB#8 ∧ r3.1 = 0xCD#8 ∧ r3.2.ppu.v = 0x210B#15 := by decide +kernel

/-- 95_test_vectors.md part 3.9: palette indices and their mirrors. -/
theorem test_palette_index :
    [0x3F00#14, 0x3F10#14, 0x3F04#14, 0x3F14#14, 0x3F1C#14, 0x3F11#14, 0x3F1F#14, 0x3F20#14, 0x3FFF#14].map
      palIndex = [0x00, 0x00, 0x04, 0x04, 0x0C, 0x11, 0x1F, 0x00, 0x1F] := by decide

/-- 95_test_vectors.md part 2, E7: nametable indices. -/
theorem test_nametable_index :
    [0x2000#14, 0x2400#14, 0x2800#14, 0x2C00#14, 0x27C0#14, 0x2BFF#14, 0x3EFF#14].map (ntIndex .vertical) =
      [0x000, 0x400, 0x000, 0x400, 0x7C0, 0x3FF, 0x6FF] ∧
    [0x2000#14, 0x2400#14, 0x2800#14, 0x2C00#14, 0x27C0#14, 0x2BFF#14, 0x3EFF#14].map (ntIndex .horizontal) =
      [0x000, 0x000, 0x400, 0x400, 0x3C0, 0x7FF, 0x6FF] := by decide

/-- 95_test_vectors.md part 3.9: `inc_x` and `inc_y`. -/
theorem test_scroll_increments :
    [0x0000#15, 0x001F#15, 0x041F#15, 0x7000#15, 0x73A0#15, 0x7FFF#15].map incX =
      [0x0001#15, 0x0400#15, 0x0000#15, 0x7001#15, 0x73A1#15, 0x7BE0#15] ∧
    [0x0000#15, 0x001F#15, 0x041F#15, 0x7000#15, 0x73A0#15, 0x7BA0#15, 0x73E0#15, 0x7FFF#15].map incY =
      [0x1000#15, 0x101F#15, 0x141F#15, 0x0020#15, 0x0800#15, 0x0000#15, 0x0000#15, 0x0C1F#15] := by decide

/-- 95_test_vectors.md part 3.9: fetch addresses from `v`. -/
theorem test_fetch_addresses :
    [0x0000#15, 0x0042#15, 0x0FBF#15, 0x2546#15].map nametableAddr = [0x2000#14, 0x2042#14, 0x2FBF#14, 0x2546#14] ∧
    [0x0000#15, 0x0042#15, 0x0FBF#15, 0x2546#15].map attributeAddr = [0x23C0#14, 0x23C0#14, 0x2FFF#14, 0x27D1#14] ∧
    [0x0000#15, 0x0042#15, 0x0FBF#15, 0x2546#15].map attributeShift = [0, 6, 2, 6] := by decide

/-- 62_ppu.md R331: VBlank starts at (241, 1), with the NMI request when `ctrl[7]` is 1. -/
theorem test_vblank_start :
    let q := ({ Ppu.powerOn with scanline := 241, dot := 1, ctrl := 0x80#8 } : Ppu).tick { chr := [], mirroring := .vertical }
    q.status = 0x80#8 ∧ q.nmiPending = true ∧ q.dot = 2 := by decide

/-! ## Loading and placing -/

/-- 95_test_vectors.md part 3.11: the errors that need no long image. -/
theorem test_load_errors :
    load [0x4E#8, 0x45#8, 0x53#8] {} = .error .badMagic ∧
    load [0x4E#8, 0x45#8, 0x53#8, 0x1A#8, 0x01#8] {} = .error .truncatedData ∧
    load ([0x4E#8, 0x45#8, 0x53#8, 0x1A#8, 0x00#8, 0x00#8, 0x10#8, 0x00#8] ++ List.replicate 8 0x00#8) {} =
      .error (.unsupportedMapper 0x01#8) ∧
    load ([0x4E#8, 0x45#8, 0x53#8, 0x1A#8] ++ List.replicate 12 0x00#8) {} = .error (.unsupportedMapper 0x00#8) := by
  decide +kernel

/-- 95_test_vectors.md part 3.12: the soft reset loads `PC`, `SP` and `P` and adds 8 cycles. -/
theorem test_soft_reset :
    let t := softReset { bench 0x1234#16 [] with a := 0x11#8, sp := 0x10#8, p := 0xE3#8, cycles := 100 }
    regs t = [0x11#8, 0x00#8, 0x00#8, 0xFD#8, 0x24#8] ∧ t.pc = 0x8000#16 ∧ t.cycles = 108 := by decide

/-- An instruction placed after reset is the one the next step runs. -/
theorem test_placed_word_runs :
    StepEnds (State.reset.withFetchWord 16 0x42A9) (fun t => t.a = 0x42#8 ∧ t.cycles = 8 + 2) := by decide

/-! ## Witnesses: for each statement with hypotheses, states and operands that meet all of them -/

/-- The cartridge of `bench` with code at 0x8000. -/
def codeCart (code : List Byte) : Cartridge :=
  { Cartridge.blank with
    prgRom := Memory.ofBytes code ++ [(0x3FFB, 0x90#8), (0x3FFD, 0x80#8), (0x3FFF, 0xA0#8)] }

/-- A machine in the middle of a run: rendering on, NMI enabled, memories listed, the code given. -/
def busy (code : List Byte) : State :=
  { State.reset with
    a := 0x1F#8, x := 0x05#8, y := 0x80#8, sp := 0x01#8, p := 0xA5#8, pc := 0x8000#16, cycles := 101
    ram := [(0x0010, 0x34#8), (0x0011, 0x02#8), (0x01FD, 0x80#8)], prgRam := [(0x1FFF, 0x7E#8)]
    chr := [(0x0010, 0xF0#8)], cart := codeCart code
    ppu := { Ppu.powerOn with
      ctrl := 0x80#8, mask := 0x1E#8, status := 0xE0#8, v := 0x2108#15, scanline := 100, dot := 40
      vram := [(0x0108, 0x01#8)], palette := [(0x01, 0x21#8), (0x11, 0x16#8)], oam := [(0x00, 0x63#8)]
      secondaryOam := [(0x00, 0x63#8)], framebuffer := [(0xEFFF, 0x0F#8)] } }

/-- The code of `busy` that most witnesses use: `LDA #$42`. -/
abbrev ldaCode : List Byte := [0xA9#8, 0x42#8]

theorem powerOn_pad_inv : Controller.powerOn.Inv := ⟨by decide, by decide⟩

/-- A memory whose listed bytes have six bits. -/
theorem sixBit_of_list {m : Memory} (h : ∀ c ∈ m, c.2 &&& 0xC0#8 = 0x00#8) : m.sixBit :=
  Memory.read_of_forall (P := fun v => v &&& 0xC0#8 = 0x00#8) (by decide) h

/-- The premise `Inv` holds of a state that is not the reset state. -/
theorem witness_inv : (busy ldaCode).Inv :=
  ⟨by decide, by decide, ⟨by decide, by decide⟩, ⟨by decide, by decide⟩, ⟨by decide, by decide⟩,
    ⟨.inl rfl, .inl rfl, rfl, ⟨by decide, by decide⟩⟩, powerOn_pad_inv, powerOn_pad_inv,
    ⟨by decide, by decide, by decide, by decide, by decide, ⟨by decide, by decide⟩, ⟨by decide, by decide⟩,
      sixBit_of_list (by decide), ⟨by decide, by decide⟩, ⟨by decide, by decide⟩, ⟨by decide, by decide⟩,
      sixBit_of_list (by decide)⟩⟩

/-- It holds whatever the code is. -/
theorem busy_inv (code : List Byte) (h : (codeCart code).prgRom.ok 0x4000) : (busy code).Inv :=
  { witness_inv with cart := ⟨.inl rfl, .inl rfl, rfl, h⟩ }

theorem witness_busy_differs_from_reset : busy ldaCode ≠ State.reset := by decide

/-- Some next state, from a check the kernel evaluates. -/
def isNext (r : Result) : Bool :=
  match r with
  | .next _ => true
  | .fault _ => false
  | .refused _ => false

theorem next_of_isNext {r : Result} (h : isNext r = true) : ∃ t, r = .next t := by
  cases r with
  | next t => exact ⟨t, rfl⟩
  | fault _ => cases h
  | refused _ => cases h

theorem witness_EncodeOfDecodeIsTheBytes :
    decode [0x8D#8, 0x00#8, 0x20#8, 0xEA#8] = .ok (.staAbs 0x2000#16) [0xEA#8] := by decide

/-- The illegal rows of the third statement exist: 0x02. -/
theorem witness_EveryOpcodeByteSelectsOneRow :
    decode [0x02#8, 0x00#8, 0x00#8] = .ok .illegal02 [0x00#8, 0x00#8] ∧ Instr.illegal02.wellFormed = false := by
  decide

theorem witness_StoresWriteExactlyTheirByte : (busy [0x8D#8, 0x14#8, 0x40#8]).Inv := busy_inv _ ⟨by decide, by decide⟩

theorem witness_IncAndDecRewriteTheByte : (busy [0xE6#8, 0x10#8]).Inv := busy_inv _ ⟨by decide, by decide⟩

theorem witness_ShiftsMoveOneBitIntoCarry : (busy [0x06#8, 0x10#8]).Inv := busy_inv _ ⟨by decide, by decide⟩

theorem witness_RotatesGoThroughCarry : (busy [0x66#8, 0x10#8]).Inv := busy_inv _ ⟨by decide, by decide⟩

/-- The clause without a side effect: a pointer at the end of a page of work RAM. -/
theorem witness_JumpsGoToTheirTarget :
    ∀ a : Word, a = 0x02FF#16 ∨ a = BitVec.ofNat 16 (0x02FF / 256 * 256 + (0x02FF + 1) % 256) →
      isMemoryAddr a = true := by
  rintro a (rfl | rfl) <;> decide

/-- `SP = 0x01`, so that the push of a call wraps. -/
theorem witness_JsrPushesItsReturnAddress : (busy [0x20#8, 0x00#8, 0x90#8]).Inv := busy_inv _ ⟨by decide, by decide⟩

theorem witness_PushesStoreOneByteBelow : (busy [0x48#8]).Inv := busy_inv _ ⟨by decide, by decide⟩

theorem witness_BrkTakesTheInterruptSequence : (busy [0x00#8]).Inv := busy_inv _ ⟨by decide, by decide⟩

/-- `I` set in one state and clear in the other. -/
theorem witness_InterruptSequencesSaveAndGoToTheirVector :
    ((busy ldaCode).Inv ∧ getFlag .I (busy ldaCode).p = true) ∧
    (({ busy ldaCode with p := 0xA1#8 } : State).Inv ∧ getFlag .I 0xA1#8 = false) :=
  ⟨⟨witness_inv, by decide⟩, { witness_inv with unused := by decide, break_ := by decide }, by decide⟩

/-- A call, an NMI and an IRQ, each followed by another routine's end with the same stack. -/
theorem witness_ReturnsUndoCallsAndInterrupts :
    let s := { busy ldaCode with p := 0xA1#8 }
    let after (t : State) : State := { State.reset with ram := t.ram, sp := t.sp }
    s.Inv ∧
    (∃ t, exec (.jsr 0x9000#16) s = .next t ∧ (after t).ram = t.ram ∧ (after t).sp = t.sp) ∧
    (∃ t, t = nmi s ∧ (after t).ram = t.ram ∧ (after t).sp = t.sp) ∧
    (∃ t, getFlag .I s.p = false ∧ t = irq s ∧ (after t).ram = t.ram ∧ (after t).sp = t.sp) :=
  ⟨{ witness_inv with unused := by decide, break_ := by decide },
    ⟨_, rfl, rfl, rfl⟩, ⟨_, rfl, rfl, rfl⟩, ⟨_, by decide, rfl, rfl, rfl⟩⟩

/-- A state for each clause: an NMI request with the line high, the line alone, neither, the line masked. -/
theorem witness_StepTakesEventsInOrder :
    let s := { busy ldaCode with p := 0xA1#8, irqLine := true }
    ({ s with ppu := { s.ppu with nmiPending := true } } : State).ppu.nmiPending = true ∧
    (s.ppu.nmiPending = false ∧ s.irqLine = true ∧ getFlag .I s.p = false) ∧
    ((busy ldaCode).ppu.nmiPending = false ∧ (busy ldaCode).irqLine = false) ∧
    (let m := { busy ldaCode with irqLine := true }
     m.ppu.nmiPending = false ∧ m.irqLine = true ∧ getFlag .I m.p = true) := by decide

theorem witness_IllegalRowsRaiseIllegalOpcode :
    Instr.illegal02.wellFormed = false ∧ Instr.illegalFF.wellFormed = false := by decide

/-- Both sides of the equivalence hold at the first and the last illegal byte. -/
theorem witness_StepFaultsExactlyOnIllegalOpcodes :
    (step (busy [0x02#8]) = .fault (.illegalOpcode 0x02#8 0x8000#16) ∧ takePending (busy [0x02#8]) = none) ∧
    (step (busy [0xFF#8]) = .fault (.illegalOpcode 0xFF#8 0x8000#16) ∧ takePending (busy [0xFF#8]) = none) :=
  ⟨⟨rfl, rfl⟩, rfl, rfl⟩

theorem witness_EveryDocumentedInstructionCompletes : Instr.brk.wellFormed = true := by decide

/-- An instruction of one, two and three bytes. -/
theorem witness_StepRunsTheDecodedInstruction :
    (takePending (busy [0xEA#8]) = none ∧
      decode (busBytes 1 (busy [0xEA#8]).pc (busy [0xEA#8])).1 = .ok .nop []) ∧
    (takePending (busy ldaCode) = none ∧
      decode (busBytes 2 (busy ldaCode).pc (busy ldaCode)).1 = .ok (.ldaImm 0x42#8) []) ∧
    (let s := busy [0x8D#8, 0x07#8, 0x20#8]
     takePending s = none ∧ decode (busBytes 3 s.pc s).1 = .ok (.staAbs 0x2007#16) []) := by decide

theorem witness_StepRunsThePlacedWord :
    (busy ldaCode).Inv ∧ decodeTableWord 24 0x20078D = some (.staAbs 0x2007#16) ∧
    decodeTableWord 8 0x02 = some .illegal02 := ⟨witness_inv, by decide, by decide⟩

theorem witness_PpuAdvancesThreeDotsPerCycle : (busy ldaCode).Inv ∧ ∃ t, step (busy ldaCode) = .next t :=
  ⟨witness_inv, next_of_isNext (by decide +kernel)⟩

/-- A step that stores to a PPU register, from a state with the invariant. -/
theorem witness_StepKeepsTheInvariant :
    (busy [0x8D#8, 0x07#8, 0x20#8]).Inv ∧ ∃ t, step (busy [0x8D#8, 0x07#8, 0x20#8]) = .next t :=
  ⟨busy_inv _ ⟨by decide, by decide⟩, next_of_isNext (by decide +kernel)⟩

/-- A step with CHR ROM, for the last clause. -/
theorem witness_StepLeavesCartridgeAndInputsAlone :
    let s := busy [0x8D#8, 0x07#8, 0x20#8]
    let s' := { s with cart := { s.cart with chrBanks := 1 } }
    s'.cart.chrBanks ≠ 0 ∧ ∃ t, step s' = .next t := ⟨by decide, next_of_isNext (by decide +kernel)⟩

/-- The first and the last address of the window, the same cell and another cell. -/
theorem witness_WorkRamIsMirrored :
    (busy ldaCode).Inv ∧ (0x0000#16).toNat < 0x2000 ∧ (0x1FFF#16).toNat < 0x2000 ∧ (0x1800#16).toNat < 0x2000 ∧
    (0x0000#16).toNat % 2048 = (0x1800#16).toNat % 2048 ∧ (0x0000#16).toNat % 2048 ≠ (0x1FFF#16).toNat % 2048 :=
  ⟨witness_inv, by decide, by decide, by decide, by decide, by decide⟩

/-- Both bank counts at both ends of each half, and the ends of the unmapped window. -/
theorem witness_PrgRomAndUnmappedAddressesDropWrites :
    (∀ a ∈ [0x8000#16, 0xBFFF#16, 0xC000#16, 0xFFFF#16], 0x8000 ≤ a.toNat) ∧
    (busy ldaCode).cart.prgBanks = 1 ∧
    ({ busy ldaCode with cart := { Cartridge.blank with prgBanks := 2 } } : State).cart.prgBanks = 2 ∧
    (∀ a ∈ [0x4000#16, 0x4015#16, 0x4018#16, 0x5FFF#16],
      0x4000 ≤ a.toNat ∧ a.toNat < 0x6000 ∧ a ≠ 0x4014#16 ∧ a ≠ 0x4016#16 ∧ a ≠ 0x4017#16) := by
  refine ⟨by simp, rfl, rfl, by simp⟩

/-- Each register at its own address, the last register at the last mirror, and both toggles. -/
theorem witness_PpuRegisterWritesTakeTheirBits :
    (∀ n < 8, 0x2000 ≤ (BitVec.ofNat 16 (0x2000 + n)).toNat ∧ (BitVec.ofNat 16 (0x2000 + n)).toNat < 0x4000 ∧
      (BitVec.ofNat 16 (0x2000 + n)).toNat % 8 = n) ∧
    ((0x3FFE#16).toNat < 0x4000 ∧ (0x3FFE#16).toNat % 8 = 6) ∧
    (busy ldaCode).ppu.writeToggle = false ∧
    ({ Ppu.powerOn with writeToggle := true } : Ppu).writeToggle = true := by decide

theorem witness_PpuRegisterReadsHaveTheirEffects :
    (∀ n < 7, 0x2000 ≤ (BitVec.ofNat 16 (0x2000 + n)).toNat ∧ (BitVec.ofNat 16 (0x2000 + n)).toNat < 0x4000 ∧
      (BitVec.ofNat 16 (0x2000 + n)).toNat % 8 = n) ∧
    ((0x3FFA#16).toNat < 0x4000 ∧ (0x3FFA#16).toNat % 8 = 2) := by decide

/-- The first and last mirror of the port, and `v` on both sides of 0x3F00. -/
theorem witness_PpuDataPortIsBufferedAndMovesV :
    (∀ a ∈ [0x2007#16, 0x3FFF#16], 0x2000 ≤ a.toNat ∧ a.toNat < 0x4000 ∧ a.toNat % 8 = 7) ∧
    (BitVec.ofNat 14 ((0x3EFF#15).toNat % 16384)).toNat < 0x3F00 ∧
    0x3F00 ≤ (BitVec.ofNat 14 ((0x3F00#15).toNat % 16384)).toNat ∧
    0x3F00 ≤ (BitVec.ofNat 14 ((0x7FFF#15).toNat % 16384)).toNat := by
  refine ⟨by simp, by simp, by simp, by simp⟩

/-- Both ends of the three regions of the PPU bus, CHR RAM and CHR ROM. -/
theorem witness_PpuBusReadsBackWhatWasWritten :
    (busy ldaCode).Inv ∧ (busy ldaCode).cart.chrBanks = 0 ∧
    ({ busy ldaCode with cart := { (busy ldaCode).cart with chrBanks := 1 } } : State).Inv ∧
    ((0x0000#14).toNat < 0x2000 ∧ (0x1FFF#14).toNat < 0x2000) ∧
    (0x2000 ≤ (0x2000#14).toNat ∧ (0x3EFF#14).toNat < 0x3F00 ∧ ntCell .vertical 0x2000 = ntCell .vertical 0x2800) ∧
    (0x3F00 ≤ (0x3F00#14).toNat ∧ 0x3F00 ≤ (0x3FFF#14).toNat ∧ palCell 0x3F10 = palCell 0x3F00) :=
  ⟨witness_inv, by decide, { witness_inv with cart := ⟨.inl rfl, .inr rfl, rfl, witness_inv.cart.prgRom⟩ },
    by decide, by decide, by decide⟩

/-- The last page of work RAM, the first of cartridge RAM, and the page in `A`. -/
theorem witness_OamDmaCopiesAPage :
    (busy ldaCode).Inv ∧ (0x1F#8).toNat < 0x20 ∧ 0x60 ≤ (0x60#8).toNat ∧ 0x60 ≤ (0xFF#8).toNat ∧
    (busy ldaCode).a = 0x1F#8 := ⟨witness_inv, by decide, by decide, by decide, by decide⟩

theorem witness_ControllersShiftOutTheButtons :
    bitOf 0x01#8 0 = true ∧ bitOf 0xFE#8 0 = false ∧ Controller.powerOn.strobe = false := by decide

/-- The two positions of the flags, on a PPU whose flags are all set, and an instruction that completes. -/
theorem witness_NmiRequestsComeFromVBlankStartOnly :
    (∀ y ∈ [(-1 : Int), 241], let p := { (busy ldaCode).ppu with scanline := y, dot := 1 }
      (p.scanline = -1 ∨ p.scanline = 241) ∧ p.dot = 1 ∧ p.status = 0xE0#8) ∧
    ∃ t, exec (.staAbs 0x2000#16) (busy ldaCode) = .next t :=
  ⟨by decide, _, rfl⟩

/-- The three updates: dot 257 on the first and last render line, dots 280 and 304 of the pre-render line. -/
theorem witness_ScrollUpdatesByField :
    ∀ c ∈ [((-1 : Int), 257), (239, 257), (-1, 280), (-1, 304)],
      let p := { (busy ldaCode).ppu with scanline := c.1, dot := c.2 }
      p.renderingEnabled = true ∧ -1 ≤ p.scanline ∧ p.scanline ≤ 239 ∧
        (p.dot = 257 ∨ (p.scanline = -1 ∧ 280 ≤ p.dot ∧ p.dot ≤ 304)) := by decide

/-- The ends of the two ranges of dots, on the first and the last render line. -/
theorem witness_BackgroundPipelineFetchesAndShifts :
    ∀ c ∈ [((-1 : Int), 1), (239, 256), (-1, 321), (239, 336)],
      let p := { (busy ldaCode).ppu with scanline := c.1, dot := c.2 }
      p.renderingEnabled = true ∧ -1 ≤ p.scanline ∧ p.scanline ≤ 239 ∧
        ((1 ≤ p.dot ∧ p.dot ≤ 256) ∨ (321 ≤ p.dot ∧ p.dot ≤ 336)) := by decide

/-- Rendering off and on, the idle lines, and the ends of the idle dots on the first and last render line;
dots 279 and 305 lie beside the vertical copy. -/
theorem witness_IdleTicksLeaveThePipelineAlone :
    Ppu.powerOn.renderingEnabled = false ∧
    (∀ c ∈ [((240 : Int), 1), (241, 2), (260, 340)],
      let p := { (busy ldaCode).ppu with scanline := c.1, dot := c.2 }
      240 ≤ p.scanline ∧ ¬ (p.scanline = 241 ∧ p.dot = 1)) ∧
    (∀ y ∈ [(-1 : Int), 239], ∀ d ∈ [0, 258, 279, 305, 320, 337, 340],
      let p := { (busy ldaCode).ppu with scanline := y, dot := d }
      p.renderingEnabled = true ∧ (p.dot = 0 ∨ (258 ≤ p.dot ∧ p.dot ≤ 320) ∨ (337 ≤ p.dot ∧ p.dot ≤ 340)) ∧
        ¬ (p.scanline = -1 ∧ 280 ≤ p.dot ∧ p.dot ≤ 304) ∧ p.dot ≠ 257) := by decide

/-- Evaluation on the first and last visible line, and the clearing with rendering off and before line 0. -/
theorem witness_SpriteEvaluationSelectsTheFirstEight :
    (∀ y ∈ [(0 : Int), 239], let p := { (busy ldaCode).ppu with scanline := y, dot := 257 }
      p.dot = 257 ∧ -1 ≤ p.scanline ∧ p.scanline ≤ 239 ∧ p.renderingEnabled = true ∧ 0 ≤ p.scanline) ∧
    (let p := { (busy ldaCode).ppu with scanline := -1, dot := 257 }
     p.dot = 257 ∧ -1 ≤ p.scanline ∧ p.scanline ≤ 239 ∧ p.scanline = -1) ∧
    (let p := { Ppu.powerOn with scanline := 239, dot := 257 }
     p.dot = 257 ∧ -1 ≤ p.scanline ∧ p.scanline ≤ 239 ∧ p.renderingEnabled = false) := by decide

/-- Line 100 selects the entry with Y 0x63 and no other: unit 0 is fetched, unit 7 is not. -/
theorem witness_SpriteFetchReadsTheSelectedRows :
    let s := busy ldaCode
    let q := s.ppu.evaluateSprites s.ppuEnv 100
    100 < 240 ∧ 0 < q.spriteCount ∧ q.spriteCount ≤ 7 := by decide +kernel

/-- The last visible cell, of a PPU with the invariant. -/
theorem witness_PixelOutputWritesItsCell :
    let p : Ppu := { (busy ldaCode).ppu with scanline := 239, dot := 256 }
    p.Inv ∧ 239 < 240 ∧ 255 < 256 ∧ p.scanline = ((239 : Nat) : Int) ∧ p.dot = 255 + 1 :=
  ⟨{ witness_inv.ppu with scanlineLow := by decide, scanlineHigh := by decide, dot := by decide },
    by decide, by decide, by decide, by decide⟩

/-- An image: magic, the two bank counts, flags 6, then zeros up to `n` bytes after the header. -/
def imageOf (prg chr flags : Byte) (n : Nat) : List Byte :=
  [0x4E#8, 0x45#8, 0x53#8, 0x1A#8, prg, chr, flags] ++ List.replicate (9 + n) 0x00#8

theorem imageOf_length (prg chr flags : Byte) (n : Nat) : (imageOf prg chr flags n).length = 16 + n := by
  simp [imageOf]; omega

/-- An image for each clause: no magic, too short, another mapper, no PRG bank, and one that loads. -/
theorem witness_LoadChecksInOrder :
    let b (image : List Byte) (n : Nat) : Byte := image.getD n 0x00#8
    let magicOk (image : List Byte) : Prop :=
      4 ≤ image.length ∧ b image 0 = 0x4E#8 ∧ b image 1 = 0x45#8 ∧ b image 2 = 0x53#8 ∧ b image 3 = 0x1A#8
    let need (image : List Byte) : Nat :=
      16 + (if bitOf (b image 6) 2 then 512 else 0) + 16384 * (b image 4).toNat + 8192 * (b image 5).toNat
    let longEnough (image : List Byte) : Prop := 16 ≤ image.length ∧ need image ≤ image.length
    let mapperId (image : List Byte) : Byte :=
      BitVec.ofNat 8 ((b image 6).toNat / 16 + (b image 7).toNat / 16 * 16)
    let fits (image : List Byte) : Prop :=
      ((b image 4).toNat = 1 ∨ (b image 4).toNat = 2) ∧ (b image 5).toNat ≤ 1 ∧ bitOf (b image 6) 3 = false
    ¬ magicOk [0x4E#8, 0x45#8, 0x53#8] ∧
    (magicOk (imageOf 0x01#8 0x00#8 0x00#8 16383) ∧ ¬ longEnough (imageOf 0x01#8 0x00#8 0x00#8 16383)) ∧
    (let m := imageOf 0x00#8 0x00#8 0x10#8 0
     magicOk m ∧ longEnough m ∧ mapperId m ≠ 0x00#8) ∧
    (let m := imageOf 0x00#8 0x00#8 0x00#8 0
     magicOk m ∧ longEnough m ∧ mapperId m = 0x00#8 ∧ ¬ fits m) ∧
    (let m := imageOf 0x01#8 0x00#8 0x00#8 16384
     magicOk m ∧ longEnough m ∧ mapperId m = 0x00#8 ∧ fits m) := by
  refine ⟨by decide, ⟨⟨?_, rfl, rfl, rfl, rfl⟩, ?_⟩, ⟨⟨?_, rfl, rfl, rfl, rfl⟩, ⟨?_, ?_⟩, by decide⟩,
    ⟨⟨?_, rfl, rfl, rfl, rfl⟩, ⟨?_, ?_⟩, by decide, by decide⟩,
    ⟨⟨?_, rfl, rfl, rfl, rfl⟩, ⟨?_, ?_⟩, by decide, by decide⟩⟩ <;>
    simp only [imageOf_length] <;> decide +kernel

/-- An image of one PRG bank and no or one CHR bank, of exactly the needed length, loads. -/
theorem image_loads (chr : Byte) (n : Nat)
    (hc : (chr = 0x00#8 ∧ n = 16384) ∨ (chr = 0x01#8 ∧ n = 24576)) :
    loadError (imageOf 0x01#8 chr 0x01#8 n) = none := by
  rcases hc with ⟨rfl, rfl⟩ | ⟨rfl, rfl⟩ <;>
  · unfold loadError
    rw [if_neg (by decide +kernel), if_neg (by rw [imageOf_length]; decide +kernel), if_neg (by decide +kernel),
      if_neg (by decide +kernel)]

theorem powerOn_cart (cart : Cartridge) (chr : Memory) (params : Config.LaunchParams) :
    (powerOn cart chr params).cart = cart := rfl

/-- A launch with every parameter away from its default. -/
def fullLaunch : Config.LaunchParams :=
  { aInit := 0x01#8, xInit := 0x02#8, yInit := 0x03#8, ramInit := [0x04#8], prgRamInit := [0x05#8],
    chrInit := [0x06#8], vramInit := [0x07#8], paletteInit := [0xC8#8], oamInit := [0x09#8],
    secondaryOamInit := [0x0A#8], ctrlHighBits := 0x0B#7 }

/-- Images that load with that launch, with CHR RAM and with CHR ROM. -/
theorem witness_LoadedMachineIsReady :
    (∃ s, load (imageOf 0x01#8 0x00#8 0x01#8 16384) fullLaunch = .system s ∧ s.cart.chrBanks = 0) ∧
    (∃ s, load (imageOf 0x01#8 0x01#8 0x01#8 24576) fullLaunch = .system s ∧ s.cart.chrBanks = 1) := by
  have h0 := image_loads 0x00#8 16384 (.inl ⟨rfl, rfl⟩)
  have h1 := image_loads 0x01#8 24576 (.inr ⟨rfl, rfl⟩)
  exact ⟨⟨_, by rw [load, h0], by rw [powerOn_cart]; decide +kernel⟩,
    _, by rw [load, h1], by rw [powerOn_cart]; decide +kernel⟩

/-! ### A frame that ends, and a frame that faults -/

/-- A cartridge whose code, reset and interrupt vectors are all `JMP $8000` at 0x8000. -/
def loopCart : Cartridge :=
  { Cartridge.blank with
    prgRom := [(0x0000, 0x4C#8), (0x0002, 0x80#8), (0x3FFB, 0x80#8), (0x3FFD, 0x80#8), (0x3FFF, 0x80#8)] }

/-- Whatever comes first, the step ends at 0x8000 again. -/
theorem loop_step {s : State} (hpc : s.pc = 0x8000#16) (hc : s.cart = loopCart) :
    ∃ t, step s = .next t ∧ t.pc = 0x8000#16 ∧ t.cart = loopCart := by
  have ticks : ∀ (n : Nat) (u : State), u.pc = 0x8000#16 → u.cart = loopCart →
      (ppuTicks n u).pc = 0x8000#16 ∧ (ppuTicks n u).cart = loopCart := by
    intro n u h1 h2
    rw [ppuTicks_eq]
    exact ⟨h1, h2⟩
  unfold step stepInstruction
  cases hp : takePending s with
  | some u =>
    refine ⟨_, rfl, ticks _ _ ?_ ?_⟩
    · rcases (takePending_some hp).1 with ⟨_, rfl⟩ | ⟨_, _, hi, rfl⟩
      · rw [nmi_eq]; simp only [withoutNmi, hc]; decide
      · rw [irq_eq s hi]; simp only [hc]; decide
    · rcases (takePending_some hp).1 with ⟨_, rfl⟩ | ⟨_, _, hi, rfl⟩
      · rw [nmi_eq]; exact hc
      · rw [irq_eq s hi]; exact hc
  | none =>
    have fetch : ∀ (u : State) (w : Word), u.cart = loopCart → u.pc = w → 0x8000 ≤ w.toNat →
        fetchByte u = (loopCart.cpuRead w, { u with pc := w + 1#16 }) := by
      intro u w hu hw hle
      rw [fetchByte, hw, memRead_rom u hle]
      simp only [hw, hu, State.setPc]
    have hf : fetchInstr s = (.jmpAbs 0x8000#16, { s with pc := 0x8003#16 }) := by
      unfold fetchInstr
      rw [fetch s 0x8000#16 hc hpc (by decide)]
      show (let lo := fetchByte { s with pc := 0x8000#16 + 1#16 }
            let hi := fetchByte lo.2
            ((.jmpAbs (operand16 lo.1 hi.1) : Instr), hi.2)) = _
      rw [fetch { s with pc := 0x8000#16 + 1#16 } 0x8001#16 hc rfl (by decide)]
      simp only []
      rw [fetch { s with pc := 0x8001#16 + 1#16 } 0x8002#16 hc rfl (by decide)]
      have hi : operand16 (loopCart.cpuRead 0x8001#16) (loopCart.cpuRead 0x8002#16) = 0x8000#16 := by decide +kernel
      simp only [hi]
      rfl
    rw [hf]
    exact ⟨_, rfl, ticks _ _ rfl hc⟩

theorem loop_frame (target fuel acc : Nat) {s : State} (hpc : s.pc = 0x8000#16) (hc : s.cart = loopCart) :
    ∃ t, frameLoop target fuel acc s = .returned t := by
  induction fuel generalizing acc s with
  | zero => exact ⟨s, rfl⟩
  | succ n ih =>
    unfold frameLoop
    split
    · exact ⟨s, rfl⟩
    · obtain ⟨t, h, hpc', hc'⟩ := loop_step hpc hc
      rw [h]
      exact ih _ hpc' hc'

/-- A frame that returns and a frame that a fault ends, both from states with the invariant. -/
theorem witness_StepFrameConsumesItsTarget :
    (let s := { busy ldaCode with cart := loopCart }
     s.Inv ∧ ∃ t, stepFrame s = .returned t) ∧
    ((busy [0x02#8]).Inv ∧ ∃ r left, stepFrame (busy [0x02#8]) = .faulted r left) := by
  refine ⟨⟨{ witness_inv with cart := ⟨.inl rfl, .inl rfl, rfl, by decide, by decide⟩ }, ?_⟩,
    busy_inv _ ⟨by decide, by decide⟩, ?_⟩
  · obtain ⟨t, h⟩ := loop_frame (frameTarget { busy ldaCode with cart := loopCart })
      (frameTarget { busy ldaCode with cart := loopCart }) 0 (s := { busy ldaCode with cart := loopCart }) rfl rfl
    exact ⟨_, by rw [stepFrame, h]⟩
  · exact ⟨.illegalOpcode 0x02#8 0x8000#16, stateAtFault (busy [0x02#8]), by decide +kernel⟩

end Sys2Proof.Tests
end

/-! ## Loading an image: what a System that `load` gives holds (00_scope.md R6, 70_reset_and_hazards.md
R380, R384, R385) -/

namespace Sys2Proof.Claims

open Sys2Proof.Machine

/-! ### The image and its cartridge -/

/-- Byte `k` of a part of the image that starts at `off`. -/
theorem read_imageBytes (image : List Byte) {off n k : Nat} (hk : k < n) :
    (Memory.ofBytes (imageBytes image off n)).read k = image.getD (off + k) 0x00#8 := by
  rw [imageBytes, Memory.read_ofBytes_take _ hk, List.getD_eq_getElem?_getD, List.getElem?_drop,
    ← List.getD_eq_getElem?_getD]
  rfl

/-- What the checks of R386 leave of the header. -/
theorem header_of_loadError_none {image : List Byte} (h : loadError image = none) :
    (parseHeader image).mapperId = 0x00#8 ∧
    ((parseHeader image).prgBanks = 1 ∨ (parseHeader image).prgBanks = 2) ∧
    (parseHeader image).chrBanks ≤ 1 := by
  simp only [loadError] at h
  split at h
  · cases h
  split at h
  · cases h
  split at h
  · cases h
  next hmapper =>
  split at h
  · cases h
  next hfits =>
  simp only [Header.fitsNrom, Bool.not_eq_true', Bool.not_eq_false, Bool.and_eq_true, Bool.or_eq_true,
    decide_eq_true_eq] at hfits
  obtain ⟨⟨hprg, hchr⟩, -⟩ := hfits
  exact ⟨Classical.not_not.mp hmapper, hprg, hchr⟩

/-- The cartridge of an accepted image meets the cartridge's invariant. -/
theorem cartridgeOf_inv {image : List Byte} (h : loadError image = none) : (cartridgeOf image).Inv := by
  obtain ⟨hmapper, hprg, hchr⟩ := header_of_loadError_none h
  exact
    { prgBanks := hprg
      chrBanks := Nat.le_one_iff_eq_zero_or_eq_one.mp hchr
      mapperId := hmapper
      prgRom := Memory.ok_ofBytes (List.length_take_le _ _) }

/-- CHR is a well-formed bank, whether it is RAM or ROM. -/
theorem chrOf_ok {image : List Byte} (h : loadError image = none) (params : Config.LaunchParams) :
    (chrOf image params).ok Config.chrBankSize := by
  obtain ⟨-, -, hchr⟩ := header_of_loadError_none h
  simp only [chrOf]
  split
  · exact Memory.ok_ofBytes (List.length_take_le _ _)
  · exact Memory.ok_ofBytes
      (Nat.le_trans (List.length_take_le _ _) (Nat.mul_le_mul_left Config.chrBankSize hchr))

/-- CHR RAM holds the launch's initial content. -/
theorem read_chrOf_ram {image : List Byte} (h : (parseHeader image).chrBanks = 0)
    (params : Config.LaunchParams) {k : Nat} (hk : k < Config.chrBankSize) :
    (chrOf image params).read k = params.chrInit.getD k 0x00#8 := by
  rw [chrOf, if_pos h]
  exact Memory.read_ofBytes_take _ hk

/-- CHR ROM holds the image's bytes after PRG ROM. -/
theorem read_chrOf_rom {image : List Byte} (h : (parseHeader image).chrBanks = 1)
    (params : Config.LaunchParams) {k : Nat} (hk : k < Config.chrBankSize) :
    (chrOf image params).read k = image.getD ((parseHeader image).prgOffset +
      Config.prgBankSize * (parseHeader image).prgBanks + k) 0x00#8 := by
  rw [chrOf, if_neg (by omega), h]
  exact read_imageBytes image (by rw [Nat.mul_one]; exact hk)

/-! ### Power-on -/

/-- `reset()` takes `PC` from the reset vector in PRG ROM and writes nothing but the list of R381. -/
theorem softReset_eq (s : State) :
    softReset s = { s with
      pc := wordOf (s.cart.cpuRead 0xFFFC#16) (s.cart.cpuRead 0xFFFD#16)
      sp := 0xFD#8, p := 0x24#8, cycles := s.cycles + 8
      ppu := { s.ppu with
        ctrl := 0x00#8, mask := 0x00#8, writeToggle := false, readBuffer := 0x00#8
        t := 0#15, fineX := 0#3, nmiPending := false } } := by
  unfold softReset
  rw [read16_rom (addr := resetVector) s (by decide) (by decide)]
  rfl

/-- After construction the PPU's reset values are in place: `reset()` then changes only `PC`, `SP`, `P`
and the cycle counter. -/
theorem powerOn_eq (cart : Cartridge) (chr : Memory) (params : Config.LaunchParams) :
    powerOn cart chr params = { constructed cart chr params with
      pc := wordOf (cart.cpuRead 0xFFFC#16) (cart.cpuRead 0xFFFD#16)
      sp := 0xFD#8, p := 0x24#8, cycles := 8 } :=
  softReset_eq _

/-- `PC` after power-on is the word the bus reads at the reset vector. -/
theorem powerOn_pc_toNat (cart : Cartridge) (chr : Memory) (params : Config.LaunchParams) :
    (powerOn cart chr params).pc.toNat =
      ((powerOn cart chr params).byteAt 0xFFFC#16).toNat +
        256 * ((powerOn cart chr params).byteAt 0xFFFD#16).toNat := by
  rw [State.byteAt, State.byteAt, memRead_rom _ (by decide), memRead_rom _ (by decide), powerOn_eq]
  exact wordOf_toNat _ _

/-- A palette cell holds the low six bits of its initial byte. -/
theorem read_constructed_palette (cart : Cartridge) (chr : Memory) (params : Config.LaunchParams) (k : Nat) :
    (constructed cart chr params).ppu.palette.read k =
      (Memory.ofBytes (params.paletteInit.take Config.paletteSize)).read k &&& 0x3F#8 := by
  show (Memory.ofBytes _).read k = _
  rw [Memory.read_ofBytes, Memory.read_ofBytes, List.getD_eq_getElem?_getD, List.getElem?_map,
    List.getD_eq_getElem?_getD]
  exact Option.getD_map (· &&& 0x3F#8) unlistedByte _

theorem controllerPowerOn_inv : Controller.powerOn.Inv := ⟨by decide, by decide⟩

theorem sixBit_nil : Memory.sixBit [] := fun _ => by rw [Memory.read_nil]; decide

theorem ppuPowerOn_inv : Ppu.powerOn.Inv where
  scanlineLow := by decide
  scanlineHigh := by decide
  dot := by decide
  status := by decide
  spriteCount := by decide
  vram := Memory.ok_nil _
  palette := Memory.ok_nil _
  paletteSix := sixBit_nil
  oam := Memory.ok_nil _
  secondaryOam := Memory.ok_nil _
  framebuffer := Memory.ok_nil _
  framebufferSix := sixBit_nil

/-- The constructed PPU meets its invariant for every initial content. -/
theorem constructed_ppu_inv (cart : Cartridge) (chr : Memory) (params : Config.LaunchParams) :
    (constructed cart chr params).ppu.Inv :=
  { ppuPowerOn_inv with
    vram := Memory.ok_ofBytes (List.length_take_le _ _)
    palette := Memory.ok_ofBytes (by rw [List.length_map]; exact List.length_take_le _ _)
    paletteSix := fun k => by rw [read_constructed_palette]; exact mask_sixBit _
    oam := Memory.ok_ofBytes (List.length_take_le _ _)
    secondaryOam := Memory.ok_ofBytes (List.length_take_le _ _) }

/-- A machine powered on with a valid cartridge and CHR memory meets the invariant. -/
theorem powerOn_inv {cart : Cartridge} {chr : Memory} (hcart : cart.Inv)
    (hchr : chr.ok Config.chrBankSize) (params : Config.LaunchParams) : (powerOn cart chr params).Inv := by
  rw [powerOn_eq]
  exact
    { unused := (by decide : getFlag .U 0x24#8 = true)
      break_ := (by decide : getFlag .B 0x24#8 = false)
      ram := Memory.ok_ofBytes (List.length_take_le _ _)
      prgRam := Memory.ok_ofBytes (List.length_take_le _ _)
      chr := hchr
      cart := hcart
      pad1 := controllerPowerOn_inv
      pad2 := controllerPowerOn_inv
      ppu := constructed_ppu_inv cart chr params }

/-! ### `load` -/

/-- `load` gives a System only for an accepted image, and then the powered-on machine of its parts. -/
theorem load_eq_system {image : List Byte} {params : Config.LaunchParams} {s : State}
    (h : load image params = .system s) :
    loadError image = none ∧ s = powerOn (cartridgeOf image) (chrOf image params) params := by
  unfold load at h
  split at h
  · cases h
  next hnone => exact ⟨hnone, (LoadResult.system.inj h).symm⟩

/-- Settles O59: `load` is `powerOn` of the image's parts, whose whole state `powerOn_eq` gives; each
memory is then read cell by cell from the bytes it was made from. -/
theorem loadedMachineIsReady : Obligations.LoadedMachineIsReady := by
  intro image params s hload
  obtain ⟨hok, rfl⟩ := load_eq_system hload
  have hinv := powerOn_inv (cartridgeOf_inv hok) (chrOf_ok hok params) params
  have hpc := powerOn_pc_toNat (cartridgeOf image) (chrOf image params) params
  rw [powerOn_eq] at hinv hpc ⊢
  refine ⟨hinv, rfl, rfl, rfl, rfl, rfl, rfl, rfl, rfl, rfl, hpc, rfl, rfl, rfl, rfl, rfl,
    ?prgRom, ?chrRom, ?chrRam, ?ram, ?prgRam, ?vram, ?oam, ?secondaryOam, ?palette,
    rfl, rfl, rfl, rfl, rfl, rfl⟩
  case prgRom => exact fun _ hk => read_imageBytes image hk
  case chrRom => exact fun hrom _ hk => read_chrOf_rom hrom params hk
  case chrRam => exact fun hram _ hk => read_chrOf_ram hram params hk
  case ram | prgRam | vram | oam | secondaryOam => exact fun _ hk => Memory.read_ofBytes_take _ hk
  case palette =>
    exact fun k hk => (read_constructed_palette (cartridgeOf image) (chrOf image params) params k).trans
      (congrArg (· &&& 0x3F#8) (Memory.read_ofBytes_take _ hk))

end Sys2Proof.Claims

/-! ## The state of the machine: what every step keeps and what reset leaves (10_state.md) -/

namespace Sys2Proof.Claims

open Sys2Proof.Machine

/-- A step that completes is a run of actions of an instruction, from a state that differs at most in the
NMI request, and then ticks of the PPU (60_exceptions.md R260, R270). -/
theorem step_next_reaches {s t : State} (h : step s = .next t) :
    ∃ (pending : Bool) (u : State) (n : Nat),
      Reaches (s.setPpu { s.ppu with nmiPending := pending }) u ∧ t = ppuTicks n u := by
  obtain ⟨u, hu, -, ht⟩ := step_next h
  rcases step_reaches hu with hr | hr
  · exact ⟨s.ppu.nmiPending, u, _, hr, ht⟩
  · exact ⟨false, u, _, hr, ht⟩

/-- The invariant does not speak of the NMI request. -/
theorem setNmiPending_inv {s : State} (h : s.Inv) (pending : Bool) :
    (s.setPpu { s.ppu with nmiPending := pending }).Inv :=
  { h with ppu := { h.ppu with } }

/-- Settles O36: the actions of an instruction (`Reaches.inv`) and the ticks of the PPU (`ppuTicks_inv`)
each keep the invariant, and a step is made of these. -/
theorem stepKeepsTheInvariant : Obligations.StepKeepsTheInvariant := by
  intro s t hs h
  obtain ⟨pending, u, n, hr, rfl⟩ := step_next_reaches h
  exact ppuTicks_inv n (hr.inv (setNmiPending_inv hs pending))

/-- Settles O37: no action of an instruction writes outside the machine (`Reaches.outside`) or CHR ROM
(`Reaches.chrRom`), and the ticks write the PPU only (`ppuTicks_eq`). -/
theorem stepLeavesCartridgeAndInputsAlone : Obligations.StepLeavesCartridgeAndInputsAlone := by
  intro s t h
  obtain ⟨pending, u, n, hr, rfl⟩ := step_next_reaches h
  obtain ⟨hcart, hirq, hhigh, hparity, hpad1, hpad2⟩ := hr.outside
  rw [ppuTicks_eq]
  exact ⟨hcart, hirq, hhigh, hparity, hpad1, hpad2, hr.chrRom⟩

/-- The reset state meets the invariant: it is power-on with the blank cartridge and no CHR byte. -/
theorem reset_inv : State.reset.Inv := by
  rw [reset_is_softReset_of_powerOn]
  have hblank : Cartridge.blank.Inv := ⟨.inl rfl, .inl rfl, rfl, Memory.ok_nil _⟩
  exact powerOn_inv hblank (Memory.ok_nil _) {}

/-- `PC` after reset is the word the bus reads at the reset vector (70_reset_and_hazards.md R381). -/
theorem reset_pc_toNat :
    State.reset.pc.toNat =
      (State.reset.byteAt 0xFFFC#16).toNat + 256 * (State.reset.byteAt 0xFFFD#16).toNat := by
  rw [reset_is_softReset_of_powerOn]
  exact powerOn_pc_toNat _ _ _

/-- Every sprite unit is empty after reset (10_state.md R41). -/
theorem mem_reset_sprites {u : SpriteUnit} (h : u ∈ State.reset.ppu.sprites.toList) :
    u = SpriteUnit.powerOn :=
  Vector.eq_of_mem_replicate (n := 8) (Vector.mem_toList_iff.mp h)

/-- Settles O56: `State.reset` lists the values of R40 and R41; `PC` and the invariant are those of
power-on. -/
theorem resetLeavesTheSpecsValues : Obligations.ResetLeavesTheSpecsValues := by
  refine ⟨rfl, rfl, rfl, reset_pc_toNat,
    rfl, rfl, rfl, rfl, rfl, rfl, rfl, rfl, rfl, rfl, rfl, rfl, rfl, rfl, rfl, rfl, rfl, rfl, rfl, rfl,
    rfl, rfl, ?sprites, fun _ => rfl, rfl, rfl, rfl, rfl, reset_inv⟩
  case sprites =>
    intro u hu
    rw [mem_reset_sprites hu]
    exact ⟨rfl, rfl, rfl, rfl⟩

end Sys2Proof.Claims

/-! ## Memory and the devices on the two buses (20_memory.md; 60_exceptions.md R275 to R282; 62_ppu.md
R310 to R313) -/

namespace Sys2Proof.Claims

open Sys2Proof.Machine

/-! ### Work RAM, PRG ROM and unmapped addresses -/

/-- Settles O38: both accesses go to the RAM cell named by the address modulo 0x800
(`memWrite_ram`, `memRead_ram`), where a read gives the last byte written (`Memory.read_write`). -/
theorem workRamIsMirrored : Obligations.WorkRamIsMirrored := by
  intro s ea addr v hs hea haddr
  rw [memWrite_ram v s hea, memRead_ram _ haddr, memRead_ram s haddr, State.setRam_ram,
    Memory.read_write hs.ram.1]

/-- One bank is read through both halves of 0x8000 to 0xFFFF (20_memory.md R61). -/
theorem prgIndex_oneBank {c : Cartridge} (hc : c.prgBanks = 1) {addr : Word} (h : 0x8000 ≤ addr.toNat) :
    c.prgIndex addr = if addr.toNat < 0xC000 then addr.toNat - 0x8000 else addr.toNat - 0xC000 := by
  have := addr.isLt
  simp only [Cartridge.prgIndex, Config.prgBankSize, hc]
  split <;> omega

/-- Two banks fill 0x8000 to 0xFFFF (20_memory.md R61). -/
theorem prgIndex_twoBanks {c : Cartridge} (hc : c.prgBanks = 2) (addr : Word) :
    c.prgIndex addr = addr.toNat - 0x8000 := by
  have := addr.isLt
  simp only [Cartridge.prgIndex, Config.prgBankSize, hc]
  omega

/-- Settles O39: the bus rules for PRG ROM and for unmapped addresses, with the place in PRG ROM computed
for each number of banks. -/
theorem prgRomAndUnmappedAddressesDropWrites : Obligations.PrgRomAndUnmappedAddressesDropWrites := by
  intro s addr v
  constructor
  · intro hrom
    refine ⟨memWrite_rom v s hrom, by rw [memRead_rom s hrom], fun hone => ?_, fun htwo => ?_⟩
    · rw [byteAt_rom s hrom, Cartridge.cpuRead, prgIndex_oneBank hone hrom]
    · rw [byteAt_rom s hrom, Cartridge.cpuRead, prgIndex_twoBanks htwo]
  · intro hlow hhigh
    have toNat_ne {w : Word} (h : addr ≠ w) : addr.toNat ≠ w.toNat := fun e => h (BitVec.eq_of_toNat_eq e)
    exact ⟨fun h16 h17 => memRead_unmapped s hlow hhigh (toNat_ne h16) (toNat_ne h17),
      fun h14 h16 => memWrite_unmapped v s hlow hhigh (toNat_ne h14) (toNat_ne h16)⟩

/-! ### Controllers -/

/-- Bit 0 of a controller read is the bit shifted out (60_exceptions.md R281). -/
theorem bitOf_controllerByte_zero (high : BitVec 7) (bit : Bool) : bitOf (controllerByte high bit) 0 = bit := by
  rw [bitOf, controllerByte, BitVec.getLsbD_append]
  simp

/-- The bits above are those of `CTRL_HIGH_BITS` (60_exceptions.md R281). -/
theorem bitOf_controllerByte_succ (high : BitVec 7) (bit : Bool) (i : Nat) :
    bitOf (controllerByte high bit) (i + 1) = bitOf high i := by
  rw [bitOf, controllerByte, BitVec.getLsbD_append]
  simp [bitOf]

/-- Settles O46: each access is the controller operation of its row of the bus, and the byte read is
`CTRL_HIGH_BITS` with the controller's bit. -/
theorem controllersOnTheBus : Obligations.ControllersOnTheBus := by
  intro s v
  refine ⟨memWrite_pads v s, memWrite_unmapped v s (by decide) (by decide) (by decide) (by decide),
    ⟨rfl, ?bit1, ?high1⟩, ⟨rfl, ?bit2, ?high2⟩, rfl, rfl⟩
  case bit1 | bit2 => exact bitOf_controllerByte_zero _ _
  case high1 | high2 => exact fun i _ => bitOf_controllerByte_succ _ _ i

/-! ### The PPU bus -/

/-- Addresses below 0x2000 read CHR memory (62_ppu.md R310). -/
theorem ppuRead_chr (env : PpuEnv) (p : Ppu) {a : PpuAddr} (h : a.toNat < 0x2000) :
    ppuRead env p a = env.chr.read a.toNat := by
  rw [ppuRead, if_pos h]

/-- Addresses from 0x2000 to 0x3EFF read the nametables (62_ppu.md R310, R312). -/
theorem ppuRead_vram (env : PpuEnv) (p : Ppu) {a : PpuAddr} (h1 : 0x2000 ≤ a.toNat) (h2 : a.toNat < 0x3F00) :
    ppuRead env p a = p.vram.read (ntCell env.mirroring a.toNat) := by
  rw [ppuRead, if_neg (by omega), if_pos h2, ntIndex_eq_ntCell]

/-- Addresses from 0x3F00 on read the palette (62_ppu.md R310, R313). -/
theorem ppuRead_palette (env : PpuEnv) (p : Ppu) {a : PpuAddr} (h : 0x3F00 ≤ a.toNat) :
    ppuRead env p a = p.palette.read (palCell a.toNat) := by
  rw [ppuRead, if_neg (by omega), if_neg (by omega), palIndex_eq_palCell]

/-- A write below 0x2000 stores in CHR RAM and is dropped by CHR ROM (62_ppu.md R311, 20_memory.md R63). -/
theorem ppuWrite_chr (v : Byte) (s : State) {a : PpuAddr} (h : a.toNat < 0x2000) :
    ppuWrite a v s = s.setChr (if s.cart.chrBanks = 0 then s.chr.write a.toNat v else s.chr) := by
  rw [ppuWrite, if_pos h, mapperPpuWrite]
  split <;> rfl

/-- A write from 0x2000 to 0x3EFF stores in the nametables (62_ppu.md R311, R312). -/
theorem ppuWrite_vram (v : Byte) (s : State) {a : PpuAddr} (h1 : 0x2000 ≤ a.toNat) (h2 : a.toNat < 0x3F00) :
    ppuWrite a v s =
      s.setPpu { s.ppu with vram := s.ppu.vram.write (ntCell s.cart.mirroring a.toNat) v } := by
  rw [ppuWrite, if_neg (by omega), if_pos h2, ntIndex_eq_ntCell]

/-- A write from 0x3F00 on stores six bits in the palette (62_ppu.md R311, R313). -/
theorem ppuWrite_palette (v : Byte) (s : State) {a : PpuAddr} (h : 0x3F00 ≤ a.toNat) :
    ppuWrite a v s =
      s.setPpu { s.ppu with palette := s.ppu.palette.write (palCell a.toNat) (v &&& 0x3F#8) } := by
  rw [ppuWrite, if_neg (by omega), if_neg (by omega), palIndex_eq_palCell]

/-- A byte written in the pattern tables is read back where CHR is RAM (20_memory.md R63). -/
theorem ppuRead_ppuWrite_chr {s : State} (hs : s.Inv) {a b : PpuAddr} (v : Byte) (ha : a.toNat < 0x2000)
    (hb : b.toNat < 0x2000) :
    ppuRead (ppuWrite a v s).ppuEnv (ppuWrite a v s).ppu b =
      if s.cart.chrBanks = 0 ∧ a = b then v else ppuRead s.ppuEnv s.ppu b := by
  rw [ppuRead_chr _ _ hb, ppuRead_chr _ _ hb, ppuWrite_chr v s ha, State.ppuEnv, State.ppuEnv,
    State.setChr_chr]
  by_cases hram : s.cart.chrBanks = 0
  · simp only [hram, true_and, if_true]
    refine (Memory.read_write hs.chr.1 _ _ _).trans ?_
    exact ite_congr (propext BitVec.toNat_inj) (fun _ => rfl) fun _ => rfl
  · simp only [hram, false_and, if_false]

/-- A byte written in the nametables is read back from every address of the same cell (62_ppu.md R312). -/
theorem ppuRead_ppuWrite_vram {s : State} (hs : s.Inv) {a b : PpuAddr} (v : Byte) (ha : 0x2000 ≤ a.toNat)
    (ha' : a.toNat < 0x3F00) (hb : 0x2000 ≤ b.toNat) (hb' : b.toNat < 0x3F00) :
    ppuRead (ppuWrite a v s).ppuEnv (ppuWrite a v s).ppu b =
      if ntCell s.cart.mirroring a.toNat = ntCell s.cart.mirroring b.toNat then v
      else ppuRead s.ppuEnv s.ppu b := by
  rw [ppuRead_vram _ _ hb hb', ppuRead_vram _ _ hb hb', ppuWrite_vram v s ha ha']
  exact Memory.read_write hs.ppu.vram.1 _ _ _

/-- A palette byte is read back, six bits of it, from every address of the same cell (62_ppu.md R313). -/
theorem ppuRead_ppuWrite_palette {s : State} (hs : s.Inv) {a b : PpuAddr} (v : Byte) (ha : 0x3F00 ≤ a.toNat)
    (hb : 0x3F00 ≤ b.toNat) :
    ppuRead (ppuWrite a v s).ppuEnv (ppuWrite a v s).ppu b =
      if palCell a.toNat = palCell b.toNat then v &&& 0x3F#8 else ppuRead s.ppuEnv s.ppu b := by
  rw [ppuRead_palette _ _ hb, ppuRead_palette _ _ hb, ppuWrite_palette v s ha]
  exact Memory.read_write hs.ppu.palette.1 _ _ _

/-- What a read of the PPU bus looks at: the mirroring, and the one memory of the address's region
(62_ppu.md R310). -/
theorem ppuRead_congr {env env' : PpuEnv} {p p' : Ppu} {b : PpuAddr} (hm : env'.mirroring = env.mirroring)
    (hchr : b.toNat < 0x2000 → env'.chr = env.chr)
    (hvram : 0x2000 ≤ b.toNat → b.toNat < 0x3F00 → p'.vram = p.vram)
    (hpal : 0x3F00 ≤ b.toNat → p'.palette = p.palette) : ppuRead env' p' b = ppuRead env p b := by
  rcases Nat.lt_or_ge b.toNat 0x2000 with hb | hb
  · rw [ppuRead_chr _ _ hb, ppuRead_chr _ _ hb, hchr hb]
  rcases Nat.lt_or_ge b.toNat 0x3F00 with hb' | hb'
  · rw [ppuRead_vram _ _ hb hb', ppuRead_vram _ _ hb hb', hm, hvram hb hb']
  · rw [ppuRead_palette _ _ hb', ppuRead_palette _ _ hb', hpal hb']

/-- A write in one region of the PPU bus leaves the other regions as they were. -/
theorem ppuRead_ppuWrite_otherRegion {s : State} {a b : PpuAddr} (v : Byte)
    (h : a.toNat < 0x2000 ∧ 0x2000 ≤ b.toNat ∨ b.toNat < 0x2000 ∧ 0x2000 ≤ a.toNat ∨
      a.toNat < 0x3F00 ∧ 0x3F00 ≤ b.toNat ∨ b.toNat < 0x3F00 ∧ 0x3F00 ≤ a.toNat) :
    ppuRead (ppuWrite a v s).ppuEnv (ppuWrite a v s).ppu b = ppuRead s.ppuEnv s.ppu b := by
  rcases Nat.lt_or_ge a.toNat 0x2000 with ha | ha
  · rw [ppuWrite_chr v s ha]
    exact ppuRead_congr rfl (fun _ => by omega) (fun _ _ => rfl) (fun _ => rfl)
  rcases Nat.lt_or_ge a.toNat 0x3F00 with ha' | ha'
  · rw [ppuWrite_vram v s ha ha']
    exact ppuRead_congr rfl (fun _ => rfl) (fun _ _ => by omega) (fun _ => rfl)
  · rw [ppuWrite_palette v s ha']
    exact ppuRead_congr rfl (fun _ => rfl) (fun _ _ => rfl) (fun _ => by omega)

/-- Settles O43: the cells are those of `ppuByte`; a read after a write in the same region follows from the
law of that region's memory, and a write in another region is not seen. -/
theorem ppuBusReadsBackWhatWasWritten : Obligations.PpuBusReadsBackWhatWasWritten :=
  fun s _ b v hs =>
    ⟨ppuRead_eq_ppuByte s.ppuEnv s.ppu b, ppuRead_ppuWrite_chr hs v, ppuRead_ppuWrite_vram hs v,
      ppuRead_ppuWrite_palette hs v, ppuRead_ppuWrite_otherRegion v⟩

/-! ### OAM DMA -/

/-- One round of the OAM DMA as R275 of 60_exceptions.md writes it: a bus read at offset `i` of the page,
then the byte into `oam[(oamAddr + i) mod 256]`. -/
def dmaRound (page : Byte) (oamAddr : Nat) (u : State) (i : Nat) : State :=
  let r := memRead (BitVec.ofNat 16 (page.toNat * 256 + i)) u
  { r.2 with ppu := { r.2.ppu with oam := r.2.ppu.oam.write ((oamAddr + i) % 256) r.1 } }

/-- The address of offset `i` of a page. -/
theorem wordOf_pageOffset (page : Byte) {i : Nat} (hi : i < 256) :
    wordOf (BitVec.ofNat 8 i) page = BitVec.ofNat 16 (page.toNat * 256 + i) := by
  rw [wordOf_ofNat, BitVec.toNat_ofNat, Nat.mod_eq_of_lt hi]

/-- No bus read moves `oam_addr` (20_memory.md R69). -/
theorem memRead_oamAddr (addr : Word) (s : State) : (memRead addr s).2.ppu.oamAddr = s.ppu.oamAddr := by
  obtain ⟨_, _, _, _, _, _, h⟩ := memRead_readsOnly addr s
  rw [h]

/-- The DMA leaves `oam_addr` where it was (60_exceptions.md R275). -/
theorem dmaCopy_oamAddr (page : Byte) (k : Nat) (s : State) :
    (dmaCopy page k s).ppu.oamAddr = s.ppu.oamAddr := by
  obtain ⟨_, _, _, _, _, _, _, h⟩ := dmaCopy_frame page k s
  rw [h]

theorem dmaByte_eq_dmaRound (page : Byte) {i : Nat} (hi : i < 256) (s : State) :
    dmaByte page i s = dmaRound page s.ppu.oamAddr.toNat s i := by
  simp only [dmaByte, dmaRound, wordOf_pageOffset page hi, memRead_oamAddr, State.setPpu]

/-- The DMA's bus reads run in ascending order of the offset (60_exceptions.md R275). -/
theorem dmaCopy_eq_foldl (page : Byte) (s : State) {k : Nat} (hk : k ≤ 256) :
    dmaCopy page k s = (List.range k).foldl (dmaRound page s.ppu.oamAddr.toNat) s := by
  induction k with
  | zero => rfl
  | succ k ih =>
    rw [dmaCopy, dmaByte_eq_dmaRound page (by omega), dmaCopy_oamAddr, ih (by omega), List.range_succ,
      List.foldl_append, List.foldl_cons, List.foldl_nil]

/-- Every byte of a page outside the device registers is a byte of memory. -/
theorem isMemoryAddr_pageOffset {page : Byte} (hp : page.toNat < 0x20 ∨ 0x60 ≤ page.toNat) {i : Nat}
    (hi : i < 256) : isMemoryAddr (BitVec.ofNat 16 (page.toNat * 256 + i)) = true := by
  have := page.isLt
  simp only [isMemoryAddr, BitVec.toNat_ofNat, Bool.or_eq_true, decide_eq_true_eq]
  omega

/-- One round from a page of memory stores the page's byte in OAM and changes nothing else. -/
theorem dmaRound_memory {page : Byte} (hp : page.toNat < 0x20 ∨ 0x60 ≤ page.toNat) {i : Nat} (hi : i < 256)
    (oamAddr : Nat) (u : State) :
    dmaRound page oamAddr u i = { u with ppu := { u.ppu with
      oam := u.ppu.oam.write ((oamAddr + i) % 256) (u.byteAt (BitVec.ofNat 16 (page.toNat * 256 + i))) } } := by
  rw [dmaRound, memRead_memory u (isMemoryAddr_pageOffset hp hi)]

/-- The DMA leaves every byte of memory as it was. -/
theorem dmaCopy_byteAt (page : Byte) (k : Nat) (s : State) {addr : Word} (ha : isMemoryAddr addr = true) :
    (dmaCopy page k s).byteAt addr = s.byteAt addr := by
  obtain ⟨_, _, _, _, _, _, _, h⟩ := dmaCopy_frame page k s
  exact byteAt_congr (by rw [h]) (by rw [h]) (by rw [h]) ha

/-- From a page of memory, after `k` rounds the first `k` destinations hold the page's first `k` bytes and
only OAM has changed (60_exceptions.md R275). -/
theorem dmaCopy_memory {page : Byte} (hp : page.toNat < 0x20 ∨ 0x60 ≤ page.toNat) {s : State} (hs : s.Inv)
    {k : Nat} (hk : k ≤ 256) :
    ∃ m : Memory, m.wf = true ∧ dmaCopy page k s = { s with ppu := { s.ppu with oam := m } } ∧
      ∀ i, i < k →
        m.read ((s.ppu.oamAddr.toNat + i) % 256) = s.byteAt (BitVec.ofNat 16 (page.toNat * 256 + i)) := by
  induction k with
  | zero => exact ⟨s.ppu.oam, hs.ppu.oam.1, rfl, fun i hi => absurd hi (Nat.not_lt_zero i)⟩
  | succ k ih =>
    obtain ⟨m, hm, hcopy, hread⟩ := ih (by omega)
    refine ⟨_, Memory.wf_write hm ((s.ppu.oamAddr.toNat + k) % 256)
      (s.byteAt (BitVec.ofNat 16 (page.toNat * 256 + k))), ?_, fun i hi => ?_⟩
    · rw [dmaCopy, dmaByte_eq_dmaRound page hk, dmaRound_memory hp hk,
        dmaCopy_byteAt page k s (isMemoryAddr_pageOffset hp hk), hcopy]
    · rw [Memory.read_write hm]
      split
      next hcell =>
        have hik : i = k := by omega
        rw [hik]
      next hcell =>
        have hik : i ≠ k := fun e => hcell (by rw [e])
        exact hread i (by omega)

/-- The DMA itself does not move the cycle counter: the stall is the store's (60_exceptions.md R275). -/
theorem oamDma_cycles (page : Byte) (s : State) : (oamDma page s).cycles = s.cycles :=
  memWrite_cycles oamDmaAddr page s

/-- `STA $4014` runs the DMA of page `A` and takes its four cycles and the stall (60_exceptions.md R275). -/
theorem exec_staAbs_oamDmaAddr (s : State) :
    exec (.staAbs oamDmaAddr) s = .next ((oamDma s.a s).addCycles (4 + (513 + s.cycles % 2))) :=
  storeOp_next 4 (.abs oamDmaAddr) s.a s

/-- Settles O44: the DMA is the fold of its rounds (`dmaCopy_eq_foldl`), from a page of memory each round
copies one byte (`dmaCopy_memory`), and the store's cycles are the row's four and the stall. -/
theorem oamDmaCopiesAPage : Obligations.OamDmaCopiesAPage := by
  intro s page hs
  refine ⟨dmaCopy_eq_foldl page s (Nat.le_refl 256), fun hp => ?_, ?_⟩
  · obtain ⟨m, -, hcopy, hread⟩ := dmaCopy_memory hp hs (Nat.le_refl 256)
    exact ⟨m, hcopy, hread⟩
  · rintro rfl
    refine (exec_staAbs_oamDmaAddr s).trans ?_
    rw [State.addCycles, oamDma_cycles, ← Nat.add_assoc, ← Nat.add_assoc]
    rfl

end Sys2Proof.Claims

/-! ## Encoding, decoding, and the step that runs the decoded instruction (30_encoding.md) -/

namespace Sys2Proof.Laws.Encoding

/-- The lemmas of the 256 rows, in the order of the constructors. -/
theorem statement_of_instr (i : Instr) : Statement i :=
  Instr.casesOn i
    ldaIndX ldaZp ldaImm ldaAbs ldaIndY ldaZpX ldaAbsY ldaAbsX ldxImm ldxZp ldxAbs ldxZpY ldxAbsY ldyImm
    ldyZp ldyAbs ldyZpX ldyAbsX staIndX staZp staAbs staIndY staZpX staAbsY staAbsX stxZp stxAbs stxZpY
    styZp styAbs styZpX tax tay txa tya tsx txs adcIndX adcZp adcImm adcAbs adcIndY adcZpX adcAbsY adcAbsX
    sbcIndX sbcZp sbcImm sbcAbs sbcIndY sbcZpX sbcAbsY sbcAbsX andIndX andZp andImm andAbs andIndY andZpX
    andAbsY andAbsX oraIndX oraZp oraImm oraAbs oraIndY oraZpX oraAbsY oraAbsX eorIndX eorZp eorImm eorAbs
    eorIndY eorZpX eorAbsY eorAbsX cmpIndX cmpZp cmpImm cmpAbs cmpIndY cmpZpX cmpAbsY cmpAbsX cpxImm cpxZp
    cpxAbs cpyImm cpyZp cpyAbs bitZp bitAbs incZp incAbs incZpX incAbsX decZp decAbs decZpX decAbsX inx iny
    dex dey aslZp aslAcc aslAbs aslZpX aslAbsX lsrZp lsrAcc lsrAbs lsrZpX lsrAbsX rolZp rolAcc rolAbs
    rolZpX rolAbsX rorZp rorAcc rorAbs rorZpX rorAbsX jmpAbs jmpInd jsr rts bcc bcs beq bne bmi bpl bvc bvs
    pha pla php plp clc sec cli sei clv brk rti cld sed nop illegal02 illegal03 illegal04 illegal07
    illegal0B illegal0C illegal0F illegal12 illegal13 illegal14 illegal17 illegal1A illegal1B illegal1C
    illegal1F illegal22 illegal23 illegal27 illegal2B illegal2F illegal32 illegal33 illegal34 illegal37
    illegal3A illegal3B illegal3C illegal3F illegal42 illegal43 illegal44 illegal47 illegal4B illegal4F
    illegal52 illegal53 illegal54 illegal57 illegal5A illegal5B illegal5C illegal5F illegal62 illegal63
    illegal64 illegal67 illegal6B illegal6F illegal72 illegal73 illegal74 illegal77 illegal7A illegal7B
    illegal7C illegal7F illegal80 illegal82 illegal83 illegal87 illegal89 illegal8B illegal8F illegal92
    illegal93 illegal97 illegal9B illegal9C illegal9E illegal9F illegalA3 illegalA7 illegalAB illegalAF
    illegalB2 illegalB3 illegalB7 illegalBB illegalBF illegalC2 illegalC3 illegalC7 illegalCB illegalCF
    illegalD2 illegalD3 illegalD4 illegalD7 illegalDA illegalDB illegalDC illegalDF illegalE2 illegalE3
    illegalE7 illegalEB illegalEF illegalF2 illegalF3 illegalF4 illegalF7 illegalFA illegalFB illegalFC
    illegalFF

end Sys2Proof.Laws.Encoding

namespace Sys2Proof.Claims

open Sys2Proof.Machine

/-! ### The rows of the opcode table -/

/-- What the row of `op` builds from an operand byte `b` or an operand word `w`, whichever it takes. -/
def rowInstr (op b : Byte) (w : Word) : Instr :=
  match opcodeForm op with
  | .f1 i => i
  | .f2 build => build b
  | .f3 build => build w

/-- The bytes the row takes: the opcode byte, then its operand (30_encoding.md R115, R116). -/
def rowBytes (op b : Byte) (w : Word) : List Byte :=
  match opcodeForm op with
  | .f1 _ => [op]
  | .f2 _ => [op, b]
  | .f3 _ => [op, operandLo w, operandHi w]

theorem row_f1 {op : Byte} {i : Instr} (h : opcodeForm op = .f1 i) (b : Byte) (w : Word) :
    rowInstr op b w = i ∧ rowBytes op b w = [op] := by
  simp only [rowInstr, rowBytes, h, and_self]

theorem row_f2 {op : Byte} {build : Byte → Instr} (h : opcodeForm op = .f2 build) (b : Byte) (w : Word) :
    rowInstr op b w = build b ∧ rowBytes op b w = [op, b] := by
  simp only [rowInstr, rowBytes, h, and_self]

theorem row_f3 {op : Byte} {build : Word → Instr} (h : opcodeForm op = .f3 build) (b : Byte) (w : Word) :
    rowInstr op b w = build w ∧ rowBytes op b w = [op, operandLo w, operandHi w] := by
  simp only [rowInstr, rowBytes, h, and_self]

/-- Every instruction is what the row of its first byte builds. -/
theorem exists_rowInstr (i : Instr) : ∃ op b w, rowInstr op b w = i := by
  obtain ⟨op, hrow⟩ := Laws.Encoding.statement_of_instr i
  cases hform : opcodeForm op with
  | f1 j =>
    rw [hform] at hrow
    exact ⟨op, 0, 0, (row_f1 hform 0 0).1.trans hrow.2⟩
  | f2 build =>
    rw [hform] at hrow
    obtain ⟨b, -, rfl⟩ := hrow
    exact ⟨op, b, 0, (row_f2 hform b 0).1⟩
  | f3 build =>
    rw [hform] at hrow
    obtain ⟨w, -, rfl⟩ := hrow
    exact ⟨op, 0, w, (row_f3 hform 0 w).1⟩

/-- The values of a function of the opcode byte, laid out as the 16 by 16 map under R120. -/
def opcodeMap {α : Type} (f : Byte → α) : List (List α) :=
  (List.range 16).map fun hi => (List.range 16).map fun lo => f (BitVec.ofNat 4 hi ++ BitVec.ofNat 4 lo)

/-- Functions with the same map agree on every opcode byte. -/
theorem eq_of_opcodeMap_eq {α : Type} {f g : Byte → α} (h : opcodeMap f = opcodeMap g) (op : Byte) :
    f op = g op := by
  have hlt := op.isLt
  have hop : BitVec.ofNat 4 (op.toNat / 16) ++ BitVec.ofNat 4 (op.toNat % 16) = op := by
    apply BitVec.eq_of_toNat_eq
    rw [toNat_append_eq, BitVec.toNat_ofNat, BitVec.toNat_ofNat]
    omega
  have hrow := List.map_inj_left.1 h (op.toNat / 16) (List.mem_range.2 (by omega))
  have hcell := List.map_inj_left.1 hrow (op.toNat % 16) (List.mem_range.2 (by omega))
  rwa [hop] at hcell

/-- The table and the encoder agree on all 256 rows, whatever the operand. -/
theorem encode_rowInstr (op b : Byte) (w : Word) : encode (rowInstr op b w) = rowBytes op b w := by
  have h : opcodeMap (fun op => encode (rowInstr op b w)) = opcodeMap (fun op => rowBytes op b w) := by rfl
  exact eq_of_opcodeMap_eq h op

/-- A row's bytes decode to what the row builds. -/
theorem decode_rowBytes (op b : Byte) (w : Word) (rest : List Byte) :
    decode (rowBytes op b w ++ rest) = .ok (rowInstr op b w) rest := by
  cases hform : opcodeForm op with
  | f1 i =>
    obtain ⟨hinstr, hbytes⟩ := row_f1 hform b w
    rw [hinstr, hbytes]
    exact decode_f1 hform rest
  | f2 build =>
    obtain ⟨hinstr, hbytes⟩ := row_f2 hform b w
    rw [hinstr, hbytes]
    exact decode_f2 hform b rest
  | f3 build =>
    obtain ⟨hinstr, hbytes⟩ := row_f3 hform b w
    rw [hinstr, hbytes]
    refine (decode_f3 hform _ _ rest).trans ?_
    rw [operand16_operandLo_operandHi]

/-- Bytes that decode begin with the bytes of a row, and give what the row builds. -/
theorem row_of_decode {bytes : List Byte} {i : Instr} {rest : List Byte} (h : decode bytes = .ok i rest) :
    ∃ op b w, rowInstr op b w = i ∧ bytes = rowBytes op b w ++ rest := by
  obtain _ | ⟨op, tail⟩ := bytes
  · cases h
  cases hform : opcodeForm op with
  | f1 j =>
    rw [decode_f1 hform] at h
    cases h
    obtain ⟨hinstr, hbytes⟩ := row_f1 hform 0 0
    exact ⟨op, 0, 0, hinstr, by rw [hbytes]; rfl⟩
  | f2 build =>
    obtain _ | ⟨b, tail⟩ := tail
    · simp [decode, hform] at h
    rw [decode_f2 hform] at h
    cases h
    obtain ⟨hinstr, hbytes⟩ := row_f2 hform b 0
    exact ⟨op, b, 0, hinstr, by rw [hbytes]; rfl⟩
  | f3 build =>
    obtain _ | ⟨lo, _ | ⟨hi, tail⟩⟩ := tail
    · simp [decode, hform] at h
    · simp [decode, hform] at h
    rw [decode_f3 hform] at h
    cases h
    obtain ⟨hinstr, hbytes⟩ := row_f3 hform 0 (operand16 lo hi)
    exact ⟨op, 0, operand16 lo hi, hinstr, by rw [hbytes, operandLo_operand16, operandHi_operand16]; rfl⟩

/-- Settles O1: an instruction is what a row builds (`exists_rowInstr`), its bytes are the row's
(`encode_rowInstr`), and the row's bytes decode to it (`decode_rowBytes`). -/
theorem decodeOfEncodeIsTheInstruction : Obligations.DecodeOfEncodeIsTheInstruction := by
  intro i rest
  obtain ⟨op, b, w, rfl⟩ := exists_rowInstr i
  rw [encode_rowInstr, decode_rowBytes]

/-- Settles O2: bytes that decode are a row's (`row_of_decode`), and these are the encoding of what the row
builds. -/
theorem encodeOfDecodeIsTheBytes : Obligations.EncodeOfDecodeIsTheBytes := by
  intro bytes i rest h
  obtain ⟨op, b, w, rfl, rfl⟩ := row_of_decode h
  rw [encode_rowInstr]

/-- Settles O4: each word is evaluated through the decoder. -/
theorem writtenOutWordsDecode : Obligations.WrittenOutWordsDecode := by
  unfold Obligations.WrittenOutWordsDecode
  decide

/-! ### Documented and illegal instructions -/

/-- A documented instruction completes in every state; an illegal one is one byte and raises the fault in
every state (30_encoding.md R118, R121; 60_exceptions.md R251, R252). -/
theorem completes_or_isIllegal (i : Instr) :
    (i.wellFormed = true ∧ ∀ s, ∃ t, exec i s = .next t) ∨
    (i.wellFormed = false ∧ ∃ byte, encode i = [byte] ∧ opcodeDocumented byte = false ∧
      ∀ s, exec i s = .fault (.illegalOpcode byte (s.pc - 1#16))) := by
  cases i with
  | illegal02 | illegal03 | illegal04 | illegal07 | illegal0B | illegal0C | illegal0F | illegal12
  | illegal13 | illegal14 | illegal17 | illegal1A | illegal1B | illegal1C | illegal1F | illegal22
  | illegal23 | illegal27 | illegal2B | illegal2F | illegal32 | illegal33 | illegal34 | illegal37
  | illegal3A | illegal3B | illegal3C | illegal3F | illegal42 | illegal43 | illegal44 | illegal47
  | illegal4B | illegal4F | illegal52 | illegal53 | illegal54 | illegal57 | illegal5A | illegal5B
  | illegal5C | illegal5F | illegal62 | illegal63 | illegal64 | illegal67 | illegal6B | illegal6F
  | illegal72 | illegal73 | illegal74 | illegal77 | illegal7A | illegal7B | illegal7C | illegal7F
  | illegal80 | illegal82 | illegal83 | illegal87 | illegal89 | illegal8B | illegal8F | illegal92
  | illegal93 | illegal97 | illegal9B | illegal9C | illegal9E | illegal9F | illegalA3 | illegalA7
  | illegalAB | illegalAF | illegalB2 | illegalB3 | illegalB7 | illegalBB | illegalBF | illegalC2
  | illegalC3 | illegalC7 | illegalCB | illegalCF | illegalD2 | illegalD3 | illegalD4 | illegalD7
  | illegalDA | illegalDB | illegalDC | illegalDF | illegalE2 | illegalE3 | illegalE7 | illegalEB
  | illegalEF | illegalF2 | illegalF3 | illegalF4 | illegalF7 | illegalFA | illegalFB | illegalFC
  | illegalFF =>
    exact .inr ⟨rfl, _, rfl, rfl, fun _ => rfl⟩
  | bcc off | bcs off | beq off | bne off | bmi off | bpl off | bvc off | bvs off =>
    exact .inl ⟨rfl, fun s => ⟨_, branch_next _ off s⟩⟩
  -- Every other arm of `exec` ends in `finish`, whatever the state.
  | _ => exact .inl ⟨rfl, fun _ => ⟨_, rfl⟩⟩

/-- Settles O30: the second case of `completes_or_isIllegal`. -/
theorem illegalRowsRaiseIllegalOpcode : Obligations.IllegalRowsRaiseIllegalOpcode := by
  intro i hi
  rcases completes_or_isIllegal i with ⟨hdoc, -⟩ | ⟨-, hillegal⟩
  · rw [hi] at hdoc
    cases hdoc
  · exact hillegal

/-- Settles O32: the first case of `completes_or_isIllegal`, with the cycles that `exec_next` gives. -/
theorem everyDocumentedInstructionCompletes : Obligations.EveryDocumentedInstructionCompletes := by
  intro i s hi
  rcases completes_or_isIllegal i with ⟨-, hcompletes⟩ | ⟨hillegal, -⟩
  · obtain ⟨t, ht⟩ := hcompletes s
    exact ⟨t, ht, (exec_next ht).2⟩
  · rw [hi] at hillegal
    cases hillegal

/-- An instruction of more than one byte is documented. -/
theorem wellFormed_of_length_ne_one {i : Instr} (h : (encode i).length ≠ 1) : i.wellFormed = true := by
  rcases completes_or_isIllegal i with ⟨hdoc, -⟩ | ⟨-, byte, hbytes, -⟩
  · exact hdoc
  · rw [hbytes] at h
    exact absurd rfl h

theorem wellFormed_rowInstr (op b : Byte) (w : Word) : (rowInstr op b w).wellFormed = opcodeDocumented op := by
  have henc := encode_rowInstr op b w
  unfold opcodeDocumented
  cases hform : opcodeForm op with
  | f1 i => exact congrArg Instr.wellFormed (row_f1 hform b w).1
  | f2 build => exact wellFormed_of_length_ne_one (by rw [henc, (row_f2 hform b w).2]; simp)
  | f3 build => exact wellFormed_of_length_ne_one (by rw [henc, (row_f3 hform b w).2]; simp)

/-- Two bytes after the opcode byte hold the operand of every row, and those it leaves are the rest. -/
theorem exists_rowBytes_append (op b1 b2 : Byte) :
    ∃ rest, [op, b1, b2] = rowBytes op b1 (operand16 b1 b2) ++ rest := by
  cases hform : opcodeForm op with
  | f1 i => exact ⟨[b1, b2], by rw [(row_f1 hform _ _).2]; rfl⟩
  | f2 build => exact ⟨[b2], by rw [(row_f2 hform _ _).2]; rfl⟩
  | f3 build => exact ⟨[], by rw [(row_f3 hform _ _).2, operandLo_operand16, operandHi_operand16]; rfl⟩

theorem head?_encode_rowInstr (op b : Byte) (w : Word) : (encode (rowInstr op b w)).head? = some op := by
  rw [encode_rowInstr]
  unfold rowBytes
  split <;> rfl

/-- The bytes of an illegal row are its opcode byte. -/
theorem encode_eq_singleton {i : Instr} {op : Byte} (hhead : (encode i).head? = some op)
    (hillegal : i.wellFormed = false) : encode i = [op] := by
  rcases completes_or_isIllegal i with ⟨hdoc, -⟩ | ⟨-, byte, hbytes, -⟩
  · rw [hillegal] at hdoc
    cases hdoc
  · rw [hbytes] at hhead
    cases hhead
    exact hbytes

/-- Settles O3: the row of the byte, applied to as many of the two bytes as its format takes. -/
theorem everyOpcodeByteSelectsOneRow : Obligations.EveryOpcodeByteSelectsOneRow := by
  refine ⟨fun op b1 b2 => ?_, by decide +kernel⟩
  obtain ⟨rest, hrest⟩ := exists_rowBytes_append op b1 b2
  have hhead := head?_encode_rowInstr op b1 (operand16 b1 b2)
  exact ⟨rowInstr op b1 (operand16 b1 b2), rest, by rw [hrest, decode_rowBytes], hhead,
    wellFormed_rowInstr op b1 _, encode_eq_singleton hhead⟩

/-! ### A step runs the instruction its bytes decode to -/

theorem length_busBytes (n : Nat) (addr : Word) (s : State) : (busBytes n addr s).1.length = n := by
  induction n generalizing addr s with
  | zero => rfl
  | succ n ih => exact congrArg (· + 1) (ih _ _)

/-- Where the bus gives the bytes of a row, the fetch reads them and gives what the row builds
(30_encoding.md R101, R115). -/
theorem fetchInstr_of_busBytes {s : State} {n : Nat} {op b : Byte} {w : Word}
    (h : (busBytes n s.pc s).1 = rowBytes op b w) :
    fetchInstr s = (rowInstr op b w, { (busBytes n s.pc s).2 with pc := s.pc + BitVec.ofNat 16 n }) := by
  have hn := length_busBytes n s.pc s
  rw [h] at hn
  cases hform : opcodeForm op with
  | f1 i =>
    obtain ⟨hinstr, hbytes⟩ := row_f1 hform b w
    rw [hbytes] at h hn
    obtain rfl : n = 1 := hn.symm
    simp only [busBytes, List.cons.injEq] at h
    simp only [fetchInstr, fetchByte_eq, h, hform, hinstr]
    rfl
  | f2 build =>
    obtain ⟨hinstr, hbytes⟩ := row_f2 hform b w
    rw [hbytes] at h hn
    obtain rfl : n = 2 := hn.symm
    have hpc : s.pc + 1#16 + 1#16 = s.pc + 2#16 := BitVec.add_assoc _ _ _
    simp only [busBytes, List.cons.injEq] at h
    simp only [fetchInstr, fetchByte_eq, memRead_withPc, h, hform, hinstr, hpc]
    rfl
  | f3 build =>
    obtain ⟨hinstr, hbytes⟩ := row_f3 hform b w
    rw [hbytes] at h hn
    obtain rfl : n = 3 := hn.symm
    have hpc : s.pc + 1#16 + 1#16 + 1#16 = s.pc + 3#16 := by rw [BitVec.add_assoc, BitVec.add_assoc]; rfl
    simp only [busBytes, List.cons.injEq] at h
    simp only [fetchInstr, fetchByte_eq, memRead_withPc, h, hform, hinstr, hpc,
      operand16_operandLo_operandHi]
    rfl

/-- Without an interrupt sequence a step is the fetched instruction, then the catch-up
(60_exceptions.md R270). -/
theorem step_of_takePending_none {s : State} (h : takePending s = none) :
    step s = afterInstr s.cycles (exec (fetchInstr s).1 (fetchInstr s).2) := by
  simp only [step, stepInstruction, h]

/-- A step whose bytes on the bus decode is the instruction they decode to, then the catch-up. -/
theorem step_of_decode_busBytes {s : State} {n : Nat} {i : Instr} (hpending : takePending s = none)
    (hdecode : decode (busBytes n s.pc s).1 = .ok i []) :
    step s = afterInstr s.cycles (exec i { (busBytes n s.pc s).2 with pc := s.pc + BitVec.ofNat 16 n }) := by
  obtain ⟨op, b, w, rfl, hbytes⟩ := row_of_decode hdecode
  rw [List.append_nil] at hbytes
  rw [step_of_takePending_none hpending, fetchInstr_of_busBytes hbytes]

/-- Settles O33: bytes that decode are a row's, and the fetch reads them and builds the row's instruction
(`step_of_decode_busBytes`). -/
theorem stepRunsTheDecodedInstruction : Obligations.StepRunsTheDecodedInstruction := by
  intro s n i hpending hdecode
  rw [step_of_decode_busBytes hpending hdecode]
  cases exec i { (busBytes n s.pc s).2 with pc := s.pc + BitVec.ofNat 16 n } <;> rfl

/-! ### Placing an instruction (log entry 7) -/

theorem byteAt_ram (s : State) {addr : Word} (h : addr.toNat < 0x2000) :
    s.byteAt addr = s.ram.read (addr.toNat % 2048) := by
  rw [State.byteAt, memRead_ram s h]

theorem byteAt_prgRam (s : State) {addr : Word} (h1 : 0x6000 ≤ addr.toNat) (h2 : addr.toNat < 0x8000) :
    s.byteAt addr = s.prgRam.read (addr.toNat - 0x6000) := by
  rw [State.byteAt, memRead_prgRam s h1 h2]

theorem placeByte_ram (v : Byte) (s : State) {addr : Word} (h : addr.toNat < 0x2000) :
    placeByte addr v s = s.setRam (s.ram.write (addr.toNat % 2048) v) := by
  simp only [placeByte, if_pos h]

theorem placeByte_prgRam (v : Byte) (s : State) {addr : Word} (h1 : 0x6000 ≤ addr.toNat)
    (h2 : addr.toNat < 0x8000) : placeByte addr v s = s.setPrgRam (s.prgRam.write (addr.toNat - 0x6000) v) := by
  simp only [placeByte]
  rw [if_neg (by omega), if_neg (by omega), if_pos h2]

theorem placeByte_rom (v : Byte) (s : State) {addr : Word} (h : 0x8000 ≤ addr.toNat) :
    placeByte addr v s =
      s.setCart { s.cart with prgRom := s.cart.prgRom.write (s.cart.prgIndex addr) v } := by
  simp only [placeByte]
  rw [if_neg (by omega), if_neg (by omega), if_neg (by omega)]

/-- An address of memory lies in work RAM, in cartridge RAM or in PRG ROM (20_memory.md R51). -/
theorem memory_regions {addr : Word} (h : isMemoryAddr addr = true) :
    addr.toNat < 0x2000 ∨ (0x6000 ≤ addr.toNat ∧ addr.toNat < 0x8000) ∨ 0x8000 ≤ addr.toNat := by
  have := isMemoryAddr_cases h
  omega

/-- A byte placed at an address of memory is read back there. -/
theorem byteAt_placeByte_self {s : State} (hs : s.Inv) {addr : Word} (ha : isMemoryAddr addr = true) (v : Byte) :
    (placeByte addr v s).byteAt addr = v := by
  rcases memory_regions ha with h | ⟨h1, h2⟩ | h
  · rw [placeByte_ram v s h, byteAt_ram _ h]
    exact (Memory.read_write hs.ram.1 _ _ _).trans (if_pos rfl)
  · rw [placeByte_prgRam v s h1 h2, byteAt_prgRam _ h1 h2]
    exact (Memory.read_write hs.prgRam.1 _ _ _).trans (if_pos rfl)
  · rw [placeByte_rom v s h, byteAt_rom _ h]
    exact (Memory.read_write hs.cart.prgRom.1 _ _ _).trans (if_pos rfl)

/-- A place in PRG ROM and its address agree modulo 0x800, of which a bank is a multiple. -/
theorem prgIndex_mod {c : Cartridge} (hc : c.Inv) {addr : Word} (h : 0x8000 ≤ addr.toNat) :
    c.prgIndex addr % 2048 = addr.toNat % 2048 := by
  unfold Cartridge.prgIndex Config.prgBankSize
  rcases hc.prgBanks with hb | hb <;> rw [hb] <;> omega

/-- Addresses that differ modulo 0x800 share no cell, whatever memories they lie in: placing a byte at one
leaves the byte at the other. -/
theorem byteAt_placeByte_of_mod_ne {s : State} (hs : s.Inv) {ea addr : Word} (hea : isMemoryAddr ea = true)
    (ha : isMemoryAddr addr = true) (hne : ea.toNat % 2048 ≠ addr.toNat % 2048) (v : Byte) :
    (placeByte ea v s).byteAt addr = s.byteAt addr := by
  rcases memory_regions ha with h | ⟨h1, h2⟩ | h
  · rw [byteAt_ram _ h, byteAt_ram _ h]
    rcases memory_regions hea with e | ⟨e1, e2⟩ | e
    · rw [placeByte_ram v s e]
      exact (Memory.read_write hs.ram.1 _ _ _).trans (if_neg hne)
    · rw [placeByte_prgRam v s e1 e2]; rfl
    · rw [placeByte_rom v s e]; rfl
  · rw [byteAt_prgRam _ h1 h2, byteAt_prgRam _ h1 h2]
    rcases memory_regions hea with e | ⟨e1, e2⟩ | e
    · rw [placeByte_ram v s e]; rfl
    · rw [placeByte_prgRam v s e1 e2]
      exact (Memory.read_write hs.prgRam.1 _ _ _).trans (if_neg (by omega))
    · rw [placeByte_rom v s e]; rfl
  · rw [byteAt_rom _ h, byteAt_rom _ h]
    rcases memory_regions hea with e | ⟨e1, e2⟩ | e
    · rw [placeByte_ram v s e]; rfl
    · rw [placeByte_prgRam v s e1 e2]; rfl
    · have hea' := prgIndex_mod hs.cart e
      have ha' := prgIndex_mod hs.cart h
      rw [placeByte_rom v s e]
      have hcell : s.cart.prgIndex ea ≠ s.cart.prgIndex addr := by omega
      exact (Memory.read_write hs.cart.prgRom.1 _ _ _).trans (if_neg hcell)

/-- Bytes placed above `addr`, no further than 0x800 from it, leave the byte at `addr`. -/
theorem byteAt_placeBytes_above {s : State} (hs : s.Inv) {addr : Word} (ha : isMemoryAddr addr = true)
    (bytes : List Byte) {d : Nat} (hd : 0 < d) (hlen : d + bytes.length ≤ 2048)
    (hmem : ∀ k < bytes.length, isMemoryAddr (addr + BitVec.ofNat 16 (d + k)) = true) :
    (placeBytes (addr + BitVec.ofNat 16 d) bytes s).byteAt addr = s.byteAt addr := by
  induction bytes generalizing d s with
  | nil => rfl
  | cons v bytes ih =>
    have hne : (addr + BitVec.ofNat 16 d).toNat % 2048 ≠ addr.toNat % 2048 := by
      simp only [List.length_cons] at hlen
      rw [BitVec.toNat_add, BitVec.toNat_ofNat]
      omega
    have hnext : addr + BitVec.ofNat 16 d + 1#16 = addr + BitVec.ofNat 16 (d + 1) := by
      rw [BitVec.add_assoc, BitVec.ofNat_add]
    rw [placeBytes, hnext]
    refine (ih (placeByte_inv hs _ v) (Nat.succ_pos d) ?_ fun k hk => ?_).trans ?_
    · rw [List.length_cons] at hlen
      omega
    · rw [Nat.succ_add_eq_add_succ]
      exact hmem (k + 1) (Nat.succ_lt_succ hk)
    · exact byteAt_placeByte_of_mod_ne hs (hmem 0 (Nat.succ_pos _)) ha hne v

/-- The bus gives the bytes that were placed, without a side effect. -/
theorem busBytes_placeBytes {s : State} (hs : s.Inv) (bytes : List Byte) {addr : Word} {n : Nat}
    (hn : n ≤ bytes.length) (hlen : bytes.length ≤ 2048)
    (hmem : ∀ k < bytes.length, isMemoryAddr (addr + BitVec.ofNat 16 k) = true) :
    busBytes n addr (placeBytes addr bytes s) = (bytes.take n, placeBytes addr bytes s) := by
  induction n generalizing addr bytes s with
  | zero => rfl
  | succ n ih =>
    obtain _ | ⟨v, bytes⟩ := bytes
    · cases hn
    have ha : isMemoryAddr addr = true := by simpa using hmem 0 (Nat.succ_pos _)
    have hshift : ∀ k, addr + BitVec.ofNat 16 (1 + k) = addr + 1#16 + BitVec.ofNat 16 k := fun k => by
      rw [BitVec.ofNat_add, BitVec.add_assoc]
    have hmem' : ∀ k < bytes.length, isMemoryAddr (addr + BitVec.ofNat 16 (1 + k)) = true := fun k hk => by
      rw [Nat.add_comm]
      exact hmem (k + 1) (Nat.succ_lt_succ hk)
    have hv : (placeBytes (addr + 1#16) bytes (placeByte addr v s)).byteAt addr = v :=
      (byteAt_placeBytes_above (placeByte_inv hs addr v) ha bytes Nat.one_pos (by rwa [Nat.add_comm]) hmem').trans
        (byteAt_placeByte_self hs ha v)
    have hrest := ih (placeByte_inv hs addr v) bytes (Nat.le_of_succ_le_succ hn) (Nat.le_of_succ_le hlen)
      fun k hk => by rw [← hshift]; exact hmem' k hk
    simp only [busBytes, placeBytes, memRead_memory _ ha, hv, hrest, List.take_succ_cons]

/-- Placing bytes touches work RAM, cartridge RAM and PRG ROM only. -/
theorem placeBytes_frame (bytes : List Byte) (addr : Word) (s : State) :
    ∃ r p c, placeBytes addr bytes s = { s with ram := r, prgRam := p, cart := c } := by
  induction bytes generalizing addr s with
  | nil => exact ⟨s.ram, s.prgRam, s.cart, rfl⟩
  | cons v bytes ih =>
    obtain ⟨r, p, c, hfirst⟩ := placeByte_frame addr v s
    rw [placeBytes, hfirst]
    exact ih _ _

/-- The three bytes at the place of the next instruction are plain memory. -/
theorem isMemoryAddr_placementAddr (pc : Word) {k : Nat} (hk : k < 3) :
    isMemoryAddr (placementAddr pc + BitVec.ofNat 16 k) = true := by
  unfold placementAddr
  split
  next h =>
    simp only [Bool.and_eq_true] at h
    obtain ⟨⟨h0, h1⟩, h2⟩ := h
    obtain rfl | rfl | rfl : k = 0 ∨ k = 1 ∨ k = 2 := by omega
    · simpa using h0
    · exact h1
    · exact h2
  next =>
    obtain rfl | rfl | rfl : k = 0 ∨ k = 1 ∨ k = 2 := by omega
    all_goals decide

/-- The placement puts `PC` at its place, leaves the cycle counter and drops what would come first. -/
theorem withNextInstr_frame (bytes : List Byte) (s : State) :
    (withNextInstr bytes s).pc = placementAddr s.pc ∧ (withNextInstr bytes s).cycles = s.cycles ∧
    takePending (withNextInstr bytes s) = none := by
  unfold withNextInstr
  obtain ⟨r, p, c, h⟩ :=
    placeBytes_frame bytes (placementAddr s.pc) ((withoutPending s).setPc (placementAddr s.pc))
  rw [h]
  refine ⟨rfl, rfl, (takePending_none _).2 ⟨rfl, ?_⟩⟩
  change (s.irqLine && getFlag .I s.p) = false ∨ getFlag .I s.p = true
  cases getFlag .I s.p <;> simp

theorem withoutPending_inv {s : State} (hs : s.Inv) (pc : Word) : ((withoutPending s).setPc pc).Inv :=
  { hs with ppu := { hs.ppu with } }

theorem decodeTableWord_eq_some {nbits w : Nat} {i : Instr} (h : decodeTableWord nbits w = some i) :
    ∃ rest, tableWordBytes nbits w = encode i ++ rest := by
  unfold decodeTableWord at h
  split at h
  next j rest hdecode =>
    cases h
    exact ⟨rest, (encodeOfDecodeIsTheBytes _ _ _ hdecode).symm⟩
  next => cases h

/-- Settles O34: the bus gives the placed bytes (`busBytes_placeBytes`), of which the first are the encoding of
the instruction, and the step runs what they decode to. -/
theorem stepRunsThePlacedWord : Obligations.StepRunsThePlacedWord := by
  intro s nbits w i hs hword s'
  obtain ⟨rest, hbytes⟩ := decodeTableWord_eq_some hword
  obtain ⟨hpc, hcycles, hpending⟩ := withNextInstr_frame (tableWordBytes nbits w) s
  have hlen : (encode i).length ≤ (tableWordBytes nbits w).length := by
    rw [hbytes, List.length_append]
    exact Nat.le_add_right _ _
  have hbus : busBytes (encode i).length s'.pc s' = (encode i, s') := by
    have h := busBytes_placeBytes (withoutPending_inv hs (placementAddr s.pc)) (tableWordBytes nbits w) hlen
      (by decide : 3 ≤ 2048) fun k hk => isMemoryAddr_placementAddr s.pc hk
    rw [hbytes, List.take_left, ← hbytes] at h
    exact hpc ▸ h
  have hdecode : decode (busBytes (encode i).length s'.pc s').1 = .ok i [] := by
    rw [hbus, ← decodeOfEncodeIsTheInstruction i [], List.append_nil]
  refine (step_of_decode_busBytes (s := s') hpending hdecode).trans ?_
  rw [hbus]
  exact congrArg (afterInstr · _) hcycles

/-! ### Addressing modes -/

theorem toNat_add_zext16 (base : Word) (index : Byte) :
    (base + zext16 index).toNat = (base.toNat + index.toNat) % 65536 := by
  rw [BitVec.toNat_add, zext16_toNat]

/-- The effective address and the page test of an indexed mode (30_encoding.md R110). -/
theorem indexed_ea_crossed (base : Word) (index : Byte) (s : State) :
    (indexed base index s).ea.toNat = (base.toNat + index.toNat) % 65536 ∧
    ((indexed base index s).crossed = true ↔
      (base.toNat + index.toNat) % 65536 / 256 ≠ base.toNat / 256) := by
  refine ⟨toNat_add_zext16 base index, ?_⟩
  simp only [indexed, page, decide_eq_true_eq, ne_eq, ← BitVec.toNat_inj, hiByte_toNat, toNat_add_zext16]

theorem readZeroPagePointer_toNat (z : Byte) (s : State) :
    (readZeroPagePointer z s).1.toNat =
      (s.ram.read z.toNat).toNat + 256 * (s.ram.read ((z.toNat + 1) % 256)).toNat := by
  rw [readZeroPagePointer_eq, wordOf_toNat, BitVec.toNat_add]
  rfl

theorem resolve_indY (b : Byte) (s : State) :
    (MemOperand.indY b).resolve s = indexed (readZeroPagePointer b s).1 s.y s := by
  simp only [MemOperand.resolve, readZeroPagePointer_eq]

/-- Settles O5: the three page-crossing modes by `indexed_ea_crossed`, pointers by `readZeroPagePointer_toNat`;
`resolve_state` says that no mode changes the state. -/
theorem addressingModesGiveTheirEffectiveAddress : Obligations.AddressingModesGiveTheirEffectiveAddress := by
  intro b w s ptr Is
  have uncrossed {o : MemOperand} {ea : Nat} (hea : (o.resolve s).ea.toNat = ea)
      (hcrossed : (o.resolve s).crossed = false) : Is o ea False :=
    ⟨hea, by rw [hcrossed]; decide, resolve_state o s⟩
  have crossing {o : MemOperand} {base : Word} {index : Byte} {n : Nat} (ho : o.resolve s = indexed base index s)
      (hn : base.toNat = n) :
      Is o ((n + index.toNat) % 65536) ((n + index.toNat) % 65536 / 256 ≠ n / 256) := by
    subst hn
    obtain ⟨hea, hcrossed⟩ := indexed_ea_crossed base index s
    exact ⟨ho ▸ hea, ho ▸ hcrossed, resolve_state o s⟩
  have hsum (index : Byte) : (zext16 (b + index)).toNat = (b.toNat + index.toNat) % 256 := by
    rw [zext16_toNat, BitVec.toNat_add]
  have hindX : (readZeroPagePointer (b + s.x) s).1.toNat = ptr ((b.toNat + s.x.toNat) % 256) := by
    rw [readZeroPagePointer_toNat, BitVec.toNat_add]
  exact ⟨uncrossed (zext16_toNat b) rfl, uncrossed (hsum s.x) rfl, uncrossed (hsum s.y) rfl, uncrossed rfl rfl,
    crossing rfl rfl, crossing rfl rfl, uncrossed hindX rfl,
    crossing (resolve_indY b s) (readZeroPagePointer_toNat b s)⟩

end Sys2Proof.Claims

/-! ## Loads, stores and register transfers (40_load_store_transfer.md) -/

namespace Sys2Proof.Claims

open Sys2Proof.Machine

/-! ### Loads -/

section
variable {s : State} {i : Instr} {bytes : List Byte} {o : Source} {base : Nat} {penalty : Bool}

/-- A row of LDA (40_load_store_transfer.md R140). -/
theorem readRow_loadA (henc : encode i = bytes) (hexec : exec i s = readOp base penalty o loadA s) :
    ReadRow s (fun m => m) (fun _ => s.x) (fun _ => s.y) zn i bytes o base penalty := by
  refine readRow_of loadA (setZN · s.p) henc hexec (fun m t _ hx hy hp => ?_) (setsFlags_zn s.p)
  rw [← hx, ← hy, ← hp]
  rfl

/-- A row of LDX (40_load_store_transfer.md R141). -/
theorem readRow_loadX (henc : encode i = bytes) (hexec : exec i s = readOp base penalty o loadX s) :
    ReadRow s (fun _ => s.a) (fun m => m) (fun _ => s.y) zn i bytes o base penalty := by
  refine readRow_of loadX (setZN · s.p) henc hexec (fun m t ha _ hy hp => ?_) (setsFlags_zn s.p)
  rw [← ha, ← hy, ← hp]
  rfl

/-- A row of LDY (40_load_store_transfer.md R142). -/
theorem readRow_loadY (henc : encode i = bytes) (hexec : exec i s = readOp base penalty o loadY s) :
    ReadRow s (fun _ => s.a) (fun _ => s.x) (fun m => m) zn i bytes o base penalty := by
  refine readRow_of loadY (setZN · s.p) henc hexec (fun m t ha hx _ hp => ?_) (setsFlags_zn s.p)
  rw [← ha, ← hx, ← hp]
  rfl

end

/-- Settles O6: every row is the read form of its load (`readRow_loadA`, `readRow_loadX`, `readRow_loadY`),
with the operand, cycles and page-cross mark of the row's meaning. -/
theorem loadsTakeTheByteAndSetZN : Obligations.LoadsTakeTheByteAndSetZN := by
  intro s
  refine ⟨?lda, ?ldx, ?ldy⟩
  case lda =>
    unfold EightRows
    and_intros <;> exact fun _ => readRow_loadA rfl rfl
  case ldx =>
    intro P
    and_intros <;> exact fun _ => readRow_loadX rfl rfl
  case ldy =>
    intro P
    and_intros <;> exact fun _ => readRow_loadY rfl rfl

/-! ### Stores -/

/-- Settles O7: every row is the storing form of its register (`storeRow_of`): one bus write of it at the
effective address. The invariant makes the write readable there. -/
theorem storesWriteExactlyTheirByte : Obligations.StoresWriteExactlyTheirByte := by
  intro s hs
  refine ⟨?sta, ?stx, ?sty⟩
  all_goals
    intro P
    and_intros <;> exact fun _ => storeRow_of hs rfl rfl

/-! ### Transfers -/

theorem setsFlags_nil (p : Byte) : SetsFlags p p [] := ⟨fun _ h => absurd h List.not_mem_nil, fun _ _ => rfl⟩

/-- A one-byte row that ends, two cycles later, with the registers and flags given. -/
theorem registerRow_of {i : Instr} {op a x y sp p' : Byte} {s : State} {flags : List (Flag × Bool)}
    (hflags : SetsFlags s.p p' flags) (henc : encode i = [op])
    (hexec : exec i s = finish 2 { s with a := a, x := x, y := y, sp := sp, p := p' }) :
    RegisterRow i op s a x y sp flags :=
  ⟨p', hflags, henc, hexec, stores_nil rfl rfl rfl⟩

/-- Settles O8: five transfers load the byte and set `Z` and `N` from it; TXS writes `SP` alone. -/
theorem transfersCopyOneRegister : Obligations.TransfersCopyOneRegister := by
  intro s
  refine ⟨?tax, ?tay, ?txa, ?tya, ?tsx, ?txs⟩
  case tax | tay | txa | tya | tsx => exact registerRow_of (setsFlags_zn _ _) rfl rfl
  case txs => exact registerRow_of (setsFlags_nil _) rfl rfl

end Sys2Proof.Claims

/-! ## Arithmetic, logic, compares and increments (41_arithmetic_logic.md) -/

namespace Sys2Proof.Claims

open Sys2Proof.Machine

/-! ### Flags -/

/-- One more flag written, of another name than those before it. -/
theorem SetsFlags.append_setFlag {p q : Byte} {w : List (Flag × Bool)} (h : SetsFlags p q w) {f : Flag}
    (hf : f ∉ w.map Prod.fst) (v : Bool) : SetsFlags p (setFlag f v q) (w ++ [(f, v)]) := by
  obtain ⟨hset, hkeep⟩ := h
  refine ⟨fun c hc => ?_, fun g hg => ?_⟩
  · rw [getFlag_setFlag]
    rcases List.mem_append.1 hc with hc | hc
    · have hne : c.1 ≠ f := fun e => hf (e ▸ List.mem_map_of_mem hc)
      rw [if_neg hne, hset c hc]
    · obtain rfl := List.mem_singleton.1 hc
      exact if_pos rfl
  · rw [List.map_append, List.mem_append, not_or] at hg
    obtain ⟨hold, hnew⟩ := hg
    rw [getFlag_setFlag, if_neg (List.ne_of_not_mem_cons hnew), hkeep g hold]

/-- ADC writes `C`, `V`, `Z` and `N` (41_arithmetic_logic.md R163). -/
theorem setsFlags_adc (a m p : Byte) :
    SetsFlags p (adcAlu a m p).p
      ((.C, decide (255 < a.toNat + m.toNat + (getFlag .C p).toNat)) ::
        (.V, bitOf (~~~(a ^^^ m) &&& (a ^^^ (adcAlu a m p).val)) 7) :: zn (adcAlu a m p).val) :=
  (((setsFlags_setFlag p .C _).append_setFlag (f := .V) (by simp) _).append_setFlag (f := .Z) (by simp)
    _).append_setFlag (f := .N) (by simp) _

/-- A compare writes `C`, `Z` and `N`; the difference is zero when the bytes are equal
(41_arithmetic_logic.md R168). -/
theorem setsFlags_compare (r m p : Byte) :
    SetsFlags p (compareFlags r m p)
      [(.C, decide (m.toNat ≤ r.toNat)), (.Z, decide (r = m)), (.N, bitOf (r - m) 7)] := by
  have hzero : r - m = 0x00#8 ↔ r = m := by rw [BitVec.sub_eq_iff_eq_add, BitVec.zero_add]
  simp only [← hzero]
  exact ((setsFlags_setFlag p .C _).append_setFlag (f := .Z) (by simp) _).append_setFlag (f := .N) (by simp) _

/-- BIT writes `Z`, `N` and `V` (41_arithmetic_logic.md R171). -/
theorem setsFlags_bit (a m p : Byte) :
    SetsFlags p (bitFlags a m p)
      [(.Z, decide (a &&& m = 0x00#8)), (.N, bitOf m 7), (.V, bitOf m 6)] :=
  ((setsFlags_setFlag p .Z _).append_setFlag (f := .N) (by simp) _).append_setFlag (f := .V) (by simp) _

/-! ### Signed overflow -/

theorem bitOf_seven (v : Byte) : bitOf v 7 = decide (128 ≤ v.toNat) := BitVec.msb_eq_decide v

/-- A byte as a signed number: 256 less when its sign bit is set (41_arithmetic_logic.md R160). -/
theorem toInt_byte (v : Byte) : v.toInt = if 128 ≤ v.toNat then (v.toNat : Int) - 256 else v.toNat := by
  rw [BitVec.toInt_eq_toNat_cond]
  split <;> split <;> omega

/-- `V` of ADC: the operands agree in sign and the result differs, exactly when the signed sum is outside
-128 to 127 (41_arithmetic_logic.md R163). -/
theorem adc_overflow (a m : Byte) (c : Bool) :
    bitOf (~~~(a ^^^ m) &&& (a ^^^ BitVec.ofNat 8 (a.toNat + m.toNat + c.toNat))) 7 =
      decide (a.toInt + m.toInt + c.toNat < -128 ∨ 127 < a.toInt + m.toInt + c.toNat) := by
  generalize hr : BitVec.ofNat 8 (a.toNat + m.toNat + c.toNat) = r
  have hsum : r.toNat = (a.toNat + m.toNat + c.toNat) % 256 := hr ▸ BitVec.toNat_ofNat ..
  have hsigns : bitOf (~~~(a ^^^ m) &&& (a ^^^ r)) 7 = true ↔
      (128 ≤ a.toNat ↔ 128 ≤ m.toNat) ∧ ¬ (128 ≤ a.toNat ↔ 128 ≤ r.toNat) := by
    have hbits : bitOf (~~~(a ^^^ m) &&& (a ^^^ r)) 7 =
        (!(bitOf a 7 ^^ bitOf m 7) && (bitOf a 7 ^^ bitOf r 7)) := by simp [bitOf]
    rw [hbits]
    simp [bitOf_seven]
  have hc := c.toNat_le
  rw [Bool.eq_iff_iff, hsigns, decide_eq_true_iff, toInt_byte, toInt_byte]
  split <;> split <;> omega

/-! ### Read forms -/

section
variable {s : State} {i : Instr} {bytes : List Byte} {o : Source} {base : Nat} {penalty : Bool}
  {flags : Byte → List (Flag × Bool)}

/-- A row that puts an arithmetic or logic result into `A`. -/
theorem readRow_intoA (alu : Byte → Byte → Byte → Alu) {r : Byte → Byte} (henc : encode i = bytes)
    (hexec : exec i s = readOp base penalty o (aluIntoA alu) s) (hval : ∀ m, (alu s.a m s.p).val = r m)
    (hflags : ∀ m, SetsFlags s.p (alu s.a m s.p).p (flags m)) :
    ReadRow s r (fun _ => s.x) (fun _ => s.y) flags i bytes o base penalty := by
  refine readRow_of (aluIntoA alu) (fun m => (alu s.a m s.p).p) henc hexec (fun m t ha hx hy hp => ?_) hflags
  rw [← hval, ← ha, ← hx, ← hy, ← hp]
  rfl

/-- A row that only sets flags. -/
theorem readRow_flagsOnly (act : Byte → State → State) (p' : Byte → Byte) (henc : encode i = bytes)
    (hexec : exec i s = readOp base penalty o act s)
    (hact : ∀ m t, t.a = s.a → t.x = s.x → t.y = s.y → t.p = s.p → act m t = t.setP (p' m))
    (hflags : ∀ m, SetsFlags s.p (p' m) (flags m)) :
    ReadRow s (fun _ => s.a) (fun _ => s.x) (fun _ => s.y) flags i bytes o base penalty := by
  refine readRow_of act p' henc hexec (fun m t ha hx hy hp => ?_) hflags
  rw [hact m t ha hx hy hp, ← ha, ← hx, ← hy]
  rfl

/-- A row of AND, ORA or EOR: `f` is its operation on bytes (41_arithmetic_logic.md R165 to R167). -/
theorem readRow_logic (f : Byte → Byte → Byte) (henc : encode i = bytes)
    (hexec : exec i s = readOp base penalty o (fun m t => loadA (f t.a m) t) s) :
    ReadRow s (f s.a) (fun _ => s.x) (fun _ => s.y) (fun m => zn (f s.a m)) i bytes o base penalty :=
  readRow_intoA (fun a m => znAlu (f a m)) henc hexec (fun _ => rfl) fun _ => setsFlags_zn s.p _

/-- A row of CMP, CPX or CPY: `reg` is the register it compares (41_arithmetic_logic.md R168 to R170). -/
theorem readRow_compare (reg : State → Byte)
    (hreg : ∀ t : State, t.a = s.a → t.x = s.x → t.y = s.y → reg t = reg s) (henc : encode i = bytes)
    (hexec : exec i s = readOp base penalty o (fun m t => t.setP (compareFlags (reg t) m t.p)) s) :
    ReadRow s (fun _ => s.a) (fun _ => s.x) (fun _ => s.y)
      (fun m => [(.C, decide (m.toNat ≤ (reg s).toNat)), (.Z, decide (reg s = m)), (.N, bitOf (reg s - m) 7)])
      i bytes o base penalty :=
  readRow_flagsOnly _ (compareFlags (reg s) · s.p) henc hexec
    (fun m t ha hx hy hp => by rw [hreg t ha hx hy, hp]) fun m => setsFlags_compare (reg s) m s.p

end

/-! ### ADC and SBC -/

/-- Settles O9: `C`, `Z` and `N` are the model's own computation (`setsFlags_adc`), `V` by `adc_overflow`. -/
theorem adcAddsWithCarry : Obligations.AdcAddsWithCarry := by
  intro s sum signed
  have hflags (m : Byte) : SetsFlags s.p (adcAlu s.a m s.p).p
      ((.C, decide (255 < sum m)) :: (.V, decide (signed m < -128 ∨ 127 < signed m)) ::
        zn (BitVec.ofNat 8 (sum m))) :=
    adc_overflow s.a m (getFlag .C s.p) ▸ setsFlags_adc s.a m s.p
  unfold EightRows
  and_intros <;> exact fun _ => readRow_intoA adcAlu rfl rfl (fun _ => rfl) hflags

theorem toNat_complement (m : Byte) : (m ^^^ 0xFF#8).toNat = 255 - m.toNat := by
  rw [show (0xFF#8) = BitVec.allOnes 8 from rfl, BitVec.xor_allOnes, BitVec.toNat_not]

theorem toInt_complement (m : Byte) : (m ^^^ 0xFF#8).toInt = -1 - m.toInt := by
  rw [toInt_byte, toInt_byte, toNat_complement]
  split <;> split <;> omega

/-- Settles O10: SBC is ADC of the complement, whose sum is 256 more than the difference and whose signed sum
is the signed difference. -/
theorem sbcSubtractsWithBorrow : Obligations.SbcSubtractsWithBorrow := by
  intro s diff signed
  have hsum (m : Byte) : (↑(s.a.toNat + (m ^^^ 0xFF#8).toNat + carry s) : Int) = diff m + 256 := by
    simp only [toNat_complement, diff]
    omega
  have hsigned (m : Byte) : s.a.toInt + (m ^^^ 0xFF#8).toInt + carry s = signed m := by
    simp only [toInt_complement, signed]
    omega
  have hcarry (m : Byte) : 255 < s.a.toNat + (m ^^^ 0xFF#8).toNat + carry s ↔ 0 ≤ diff m := by
    have := hsum m
    omega
  have hval (m : Byte) : (sbcAlu s.a m s.p).val = BitVec.ofInt 8 (diff m) := by
    have := hsum m
    unfold carry at this
    apply BitVec.eq_of_toNat_eq
    rw [sbcAlu, adc_val_toNat, BitVec.toNat_ofInt]
    omega
  have hflags (m : Byte) : SetsFlags s.p (sbcAlu s.a m s.p).p
      ((.C, decide (0 ≤ diff m)) :: (.V, decide (signed m < -128 ∨ 127 < signed m)) ::
        zn (BitVec.ofInt 8 (diff m))) := by
    simp only [← hcarry, ← hsigned, ← hval]
    exact adc_overflow s.a (m ^^^ 0xFF#8) (getFlag .C s.p) ▸ setsFlags_adc s.a (m ^^^ 0xFF#8) s.p
  unfold EightRows
  and_intros <;> exact fun _ => readRow_intoA sbcAlu rfl rfl hval hflags

/-! ### AND, ORA and EOR -/

/-- Settles O11: each row puts the combined byte into `A` and sets `Z` and `N` from it. -/
theorem logicCombinesIntoA : Obligations.LogicCombinesIntoA := by
  intro s P
  unfold EightRows
  refine ⟨?and, ?ora, ?eor⟩
  case and => and_intros <;> exact fun _ => readRow_logic (· &&& ·) rfl rfl
  case ora => and_intros <;> exact fun _ => readRow_logic (· ||| ·) rfl rfl
  case eor => and_intros <;> exact fun _ => readRow_logic (· ^^^ ·) rfl rfl

/-! ### Compares and BIT -/

/-- Settles O12: each row compares its register, which the read leaves alone, with the byte. -/
theorem comparesSetCarryZeroNegative : Obligations.ComparesSetCarryZeroNegative := by
  intro s P
  unfold EightRows
  refine ⟨?cmp, ?xImm, ?xZp, ?xAbs, ?yImm, ?yZp, ?yAbs⟩
  case cmp => and_intros <;> exact fun _ => readRow_compare State.a (fun _ ha _ _ => ha) rfl rfl
  case xImm | xZp | xAbs => exact fun _ => readRow_compare State.x (fun _ _ hx _ => hx) rfl rfl
  case yImm | yZp | yAbs => exact fun _ => readRow_compare State.y (fun _ _ _ hy => hy) rfl rfl

/-- Settles O13: both rows only set flags (`setsFlags_bit`). -/
theorem bitTestTakesFlagsFromTheByte : Obligations.BitTestTakesFlagsFromTheByte := by
  intro s P
  refine ⟨?zp, ?abs⟩
  case zp | abs =>
    exact fun _ => readRow_flagsOnly bitAct (bitFlags s.a · s.p) rfl rfl
      (fun m t ha _ _ hp => by rw [bitAct, ha, hp]) (setsFlags_bit s.a · s.p)

/-! ### Increments and decrements -/

theorem add_one_eq_ofNat (v : Byte) : v + 0x01#8 = BitVec.ofNat 8 (v.toNat + 1) := by
  rw [BitVec.ofNat_add, BitVec.ofNat_toNat, BitVec.setWidth_eq]

/-- Subtracting 1 is adding 255, modulo 256 (41_arithmetic_logic.md R160). -/
theorem sub_one_eq_ofNat (v : Byte) : v - 0x01#8 = BitVec.ofNat 8 (v.toNat + 255) := by
  rw [BitVec.ofNat_add, BitVec.ofNat_toNat, BitVec.setWidth_eq]
  exact BitVec.sub_eq_add_neg v 1#8

/-- A row that writes a byte back and sets `Z` and `N` from it. -/
theorem modifyRow_zn {s : State} (hs : s.Inv) {i : Instr} {bytes : List Byte} {o : MemOperand} {base : Nat}
    {f r : Byte → Byte} (hr : ∀ m, f m = r m) (henc : encode i = bytes)
    (hexec : exec i s = modifyOp base o (fun m => znAlu (f m)) s) :
    ModifyRow s r (fun m => zn (r m)) i bytes o base := by
  obtain rfl : f = r := funext hr
  exact modifyRow_of hs _ henc hexec (fun _ => rfl) fun _ => setsFlags_zn s.p _

/-- Settles O14: every row is the read-modify-write form of INC or DEC (`modifyRow_zn`). The invariant makes
the write readable. -/
theorem incAndDecRewriteTheByte : Obligations.IncAndDecRewriteTheByte := by
  intro s hs P
  refine ⟨?inc, ?dec⟩
  case inc =>
    unfold FourModifyRows
    and_intros <;> exact fun _ => modifyRow_zn hs add_one_eq_ofNat rfl rfl
  case dec =>
    unfold FourModifyRows
    and_intros <;> exact fun _ => modifyRow_zn hs sub_one_eq_ofNat rfl rfl

/-- Settles O15: the register takes the byte above or below, and `Z` and `N` come from it. -/
theorem registerIncrementsAndDecrementsWrap : Obligations.RegisterIncrementsAndDecrementsWrap := by
  intro s up down
  have hup (r : Byte) : r + 0x01#8 = up r := add_one_eq_ofNat r
  have hdown (r : Byte) : r - 0x01#8 = down r := sub_one_eq_ofNat r
  rw [← hup, ← hup, ← hdown, ← hdown]
  refine ⟨?inx, ?iny, ?dex, ?dey⟩
  case inx | iny | dex | dey => exact registerRow_of (setsFlags_zn _ _) rfl rfl

end Sys2Proof.Claims

/-! ## Shift and rotate (42_shift_rotate.md) -/

namespace Sys2Proof.Claims

open Sys2Proof.Machine

/-! ### The results as numbers -/

theorem shiftLeft_one_eq_ofNat (v : Byte) : v <<< 1 = BitVec.ofNat 8 (v.toNat * 2) := by
  apply BitVec.eq_of_toNat_eq
  rw [BitVec.toNat_shiftLeft, BitVec.toNat_ofNat, Nat.shiftLeft_eq, Nat.pow_one]

theorem shiftRight_one_eq_ofNat (v : Byte) : v >>> 1 = BitVec.ofNat 8 (v.toNat / 2) := by
  have hv := v.isLt
  apply BitVec.eq_of_toNat_eq
  rw [BitVec.toNat_ushiftRight, BitVec.toNat_ofNat, Nat.shiftRight_eq_div_pow, Nat.pow_one]
  omega

/-- ROL's result: the carry goes into bit 0, which the shift has cleared, so combining is adding
(42_shift_rotate.md R193). -/
theorem rotateLeft_eq_ofNat (v : Byte) (c : Bool) :
    (v <<< 1) ||| (if c then 0x01#8 else 0x00#8) = BitVec.ofNat 8 (v.toNat * 2 + c.toNat) := by
  have hbit : (if c then 0x01#8 else 0x00#8) = BitVec.ofNat 8 c.toNat := by cases c <;> rfl
  have hadd : v.toNat * 2 + c.toNat = v.toNat * 2 ||| c.toNat := by
    simpa [Nat.shiftLeft_eq] using Nat.shiftLeft_add_eq_or_of_lt (i := 1) c.toNat_lt v.toNat
  rw [hbit, hadd, shiftLeft_one_eq_ofNat, BitVec.ofNat_or]

/-- ROR's result: the carry goes into bit 7, above every bit of the halved byte, so combining is adding
(42_shift_rotate.md R194). -/
theorem rotateRight_eq_ofNat (v : Byte) (c : Bool) :
    (v >>> 1) ||| (if c then 0x80#8 else 0x00#8) = BitVec.ofNat 8 (v.toNat / 2 + 128 * c.toNat) := by
  have hbit : (if c then 0x80#8 else 0x00#8) = BitVec.ofNat 8 (128 * c.toNat) := by cases c <;> rfl
  have hhalf : v.toNat / 2 < 2 ^ 7 := by have := v.isLt; omega
  have hadd : v.toNat / 2 + 128 * c.toNat = v.toNat / 2 ||| 128 * c.toNat := by
    rw [Nat.add_comm, Nat.or_comm]
    exact Nat.two_pow_add_eq_or_of_lt hhalf c.toNat
  rw [hbit, hadd, shiftRight_one_eq_ofNat, BitVec.ofNat_or]

/-! ### The four operations -/

theorem aslAlu_eq (v p : Byte) :
    aslAlu v p = shiftAlu (bitOf v 7) (BitVec.ofNat 8 (v.toNat * 2)) p := by
  rw [aslAlu, shiftLeft_one_eq_ofNat]

theorem lsrAlu_eq (v p : Byte) :
    lsrAlu v p = shiftAlu (bitOf v 0) (BitVec.ofNat 8 (v.toNat / 2)) p := by
  rw [lsrAlu, shiftRight_one_eq_ofNat]

theorem rolAlu_eq (v p : Byte) :
    rolAlu v p = shiftAlu (bitOf v 7) (BitVec.ofNat 8 (v.toNat * 2 + (getFlag .C p).toNat)) p := by
  rw [rolAlu, rotateLeft_eq_ofNat]

theorem rorAlu_eq (v p : Byte) :
    rorAlu v p = shiftAlu (bitOf v 0) (BitVec.ofNat 8 (v.toNat / 2 + 128 * (getFlag .C p).toNat)) p := by
  rw [rorAlu, rotateRight_eq_ofNat]

/-! ### The two forms -/

section
variable {s : State} {alu : Byte → Byte → Alu} {out : Byte → Bool} {r : Byte → Byte} {i : Instr}

/-- A row that shifts or rotates `A` (42_shift_rotate.md R190). -/
theorem accumulatorRow_shift {op : Byte} (halu : ∀ v, alu v s.p = shiftAlu (out v) (r v) s.p)
    (henc : encode i = [op]) (hexec : exec i s = accumulatorOp 2 alu s) :
    AccumulatorRow s i op (r s.a) ((.C, out s.a) :: zn (r s.a)) :=
  accumulatorRow_of alu henc hexec (halu s.a ▸ rfl) (halu s.a ▸ setsFlags_shift s.p _ _)

/-- A row that shifts or rotates the byte at its effective address (42_shift_rotate.md R190). -/
theorem modifyRow_shift (hs : s.Inv) {bytes : List Byte} {o : MemOperand} {base : Nat}
    (halu : ∀ v, alu v s.p = shiftAlu (out v) (r v) s.p) (henc : encode i = bytes)
    (hexec : exec i s = modifyOp base o alu s) :
    ModifyRow s r (fun v => (.C, out v) :: zn (r v)) i bytes o base :=
  modifyRow_of hs alu henc hexec (fun v => halu v ▸ rfl) fun v => halu v ▸ setsFlags_shift s.p _ _

end

/-! ### ASL, LSR, ROL and ROR -/

/-- Settles O16: `aslAlu_eq` and `lsrAlu_eq` give the byte and the bit shifted out; every row is the
accumulator form or the memory form of a shift. The invariant makes the write readable. -/
theorem shiftsMoveOneBitIntoCarry : Obligations.ShiftsMoveOneBitIntoCarry := by
  intro s asl lsr fl
  have hasl (v : Byte) : aslAlu v s.p = shiftAlu (bitOf v 7) (asl v) s.p := aslAlu_eq v s.p
  have hlsr (v : Byte) : lsrAlu v s.p = shiftAlu (bitOf v 0) (lsr v) s.p := lsrAlu_eq v s.p
  refine ⟨accumulatorRow_shift hasl rfl rfl, accumulatorRow_shift hlsr rfl rfl, fun hs => ⟨?asl, ?lsr⟩⟩
  case asl =>
    unfold FourModifyRows
    and_intros <;> exact fun _ => modifyRow_shift hs hasl rfl rfl
  case lsr =>
    unfold FourModifyRows
    and_intros <;> exact fun _ => modifyRow_shift hs hlsr rfl rfl

/-- Settles O17: `rolAlu_eq` and `rorAlu_eq` give the byte with the old carry in it and the bit shifted out;
every row is the accumulator form or the memory form of a shift. The invariant makes the write readable. -/
theorem rotatesGoThroughCarry : Obligations.RotatesGoThroughCarry := by
  intro s rol ror fl
  have hrol (v : Byte) : rolAlu v s.p = shiftAlu (bitOf v 7) (rol v) s.p := rolAlu_eq v s.p
  have hror (v : Byte) : rorAlu v s.p = shiftAlu (bitOf v 0) (ror v) s.p := rorAlu_eq v s.p
  refine ⟨accumulatorRow_shift hrol rfl rfl, accumulatorRow_shift hror rfl rfl, fun hs => ⟨?rol, ?ror⟩⟩
  case rol =>
    unfold FourModifyRows
    and_intros <;> exact fun _ => modifyRow_shift hs hrol rfl rfl
  case ror =>
    unfold FourModifyRows
    and_intros <;> exact fun _ => modifyRow_shift hs hror rfl rfl

end Sys2Proof.Claims

/-! ## Jumps, calls, returns and branches (43_control_flow.md) -/

namespace Sys2Proof.Claims

open Sys2Proof.Machine

/-! ### JMP -/

/-- Bus reads leave everything but the PPU and the controllers as it was (20_memory.md R69). -/
theorem eq_withDevices_of_readsOnly {s t : State} (h : ReadsOnly s t) :
    t = { s with ppu := t.ppu, pad1 := t.pad1, pad2 := t.pad2 } := by
  obtain ⟨_, _, _, _, _, _, rfl⟩ := h
  rfl

/-- Settles O18: the indirect form is two bus reads, the second in the page of the first
(`jumpPointerHi_ofNat`); each is without a side effect where it reads memory. -/
theorem jumpsGoToTheirTarget : Obligations.JumpsGoToTheirTarget := by
  intro w s
  refine ⟨⟨rfl, rfl, stores_nil rfl rfl rfl⟩, ?_⟩
  intro hiAddr lo hi
  refine ⟨⟨rfl, ?exec, stores_nil rfl rfl rfl⟩, fun hmem => ?quiet⟩
  case exec =>
    have hstate := eq_withDevices_of_readsOnly (readPair_readsOnly w hiAddr s)
    have hpair : resolveIndirect w s = readPair w hiAddr s := by rw [resolveIndirect, jumpPointerHi_ofNat]
    change finish 5 ((resolveIndirect w s).2.setPc (resolveIndirect w s).1) = _
    rw [hpair, ← wordOf_ofNat, hstate]
    rfl
  case quiet =>
    have hlo : lo = (s.byteAt w, s) := memRead_memory s (hmem w (.inl rfl))
    have hhi : hi = (lo.2.byteAt hiAddr, lo.2) := memRead_memory lo.2 (hmem hiAddr (.inr rfl))
    rw [hhi, hlo]

/-! ### JSR and RTS -/

theorem exec_jsr (w : Word) (s : State) :
    exec (.jsr w) s = .next { s with
      ram := (s.ram.write (0x0100 + s.sp.toNat) (hiByte (s.pc - 1#16))).write (0x0100 + (s.sp - 1#8).toNat)
        (loByte (s.pc - 1#16))
      sp := s.sp - 2#8, pc := w, cycles := s.cycles + 6 } := by
  change finish 6 ((pushWord (s.pc - 1#16) s).setPc w) = _
  rw [pushWord_eq]
  rfl

/-- Settles O19: JSR pushes two bytes (`exec_jsr`), which the invariant makes readable
(`stores_push_two`). -/
theorem jsrPushesItsReturnAddress : Obligations.JsrPushesItsReturnAddress := by
  intro w s hs
  exact ⟨_, ⟨rfl, exec_jsr w s, stores_push_two hs _ _ rfl rfl rfl⟩, rfl⟩

/-- A pulled word is the two bytes above `SP`, the low byte first (43_control_flow.md R204). -/
theorem pullWord_eq (s : State) :
    pullWord s = (wordOf (s.byteAt (stackAddr (s.sp + 1#8))) (s.byteAt (stackAddr (s.sp + 2#8))),
      { s with sp := s.sp + 2#8 }) := by
  have hsp : s.sp + 1#8 + 1#8 = s.sp + 2#8 := BitVec.add_assoc _ _ _
  simp only [pullWord, pull_eq, byteAt_stack, hsp]

theorem exec_rts (s : State) :
    exec .rts s = .next { s with
      pc := wordOf (s.byteAt (stackAddr (s.sp + 1#8))) (s.byteAt (stackAddr (s.sp + 2#8))) + 1#16
      sp := s.sp + 2#8, cycles := s.cycles + 6 } := by
  change finish 6 ((pullWord s).2.setPc ((pullWord s).1 + 1#16)) = _
  rw [pullWord_eq]
  rfl

theorem wordOf_add_one (lo hi : Byte) :
    wordOf lo hi + 1#16 = BitVec.ofNat 16 (lo.toNat + 256 * hi.toNat + 1) := by
  rw [BitVec.ofNat_add, ← wordOf_toNat, BitVec.ofNat_toNat, BitVec.setWidth_eq]

/-- Settles O20: `exec_rts`, with the target as a number. -/
theorem rtsResumesPastTheStackedAddress : Obligations.RtsResumesPastTheStackedAddress := by
  intro s target
  exact ⟨rfl, wordOf_add_one _ _ ▸ exec_rts s, stores_nil rfl rfl rfl⟩

/-! ### Branches -/

/-- The sign-extended displacement is added modulo 2^16 (30_encoding.md R107). -/
theorem branchTarget_eq_ofInt (off : Byte) (s : State) :
    branchTarget off s = BitVec.ofInt 16 (s.pc.toNat + off.toInt) := by
  rw [BitVec.ofInt_add, BitVec.ofInt_natCast, BitVec.ofNat_toNat, BitVec.setWidth_eq]
  rfl

theorem page_eq_iff (v w : Word) : page v = page w ↔ v.toNat / 256 = w.toNat / 256 := by
  rw [← BitVec.toNat_inj, page, page, hiByte_toNat, hiByte_toNat]

/-- The row of a branch taken when flag `f` has the value `value` (43_control_flow.md R203). -/
theorem completes_branch {s : State} {i : Instr} {op b : Byte} {cond : Bool} {f : Flag} {value : Bool}
    (henc : encode i = [op, b]) (hexec : exec i s = branch cond b s)
    (hcond : cond = true ↔ getFlag f s.p = value) :
    Completes i [op, b] s
      (if getFlag f s.p = value then
        { s with
          pc := BitVec.ofInt 16 (s.pc.toNat + b.toInt)
          cycles := s.cycles +
            if (BitVec.ofInt 16 (s.pc.toNat + b.toInt)).toNat / 256 = s.pc.toNat / 256 then 3 else 4 }
      else { s with cycles := s.cycles + 2 }) [] := by
  simp only [← hcond, ← branchTarget_eq_ofInt, ← page_eq_iff]
  cases cond with
  | true | false => exact ⟨henc, hexec, stores_nil rfl rfl rfl⟩

/-- Settles O21: each row is a branch on its flag, or on the flag's complement. -/
theorem branchesFollowTheirFlag : Obligations.BranchesFollowTheirFlag := by
  intro b s target Row
  refine ⟨?bcc, ?bcs, ?bne, ?beq, ?bpl, ?bmi, ?bvc, ?bvs⟩
  case bcs | beq | bmi | bvs => exact completes_branch rfl rfl Iff.rfl
  case bcc | bne | bpl | bvc => exact completes_branch rfl rfl (Bool.not_eq_true' _).to_iff

/-! ### Returns after calls and interrupts -/

/-- A byte stored on the stack is read there in every state with the same work RAM. -/
theorem byteAt_stack_of_stores {s t u : State} {l : List (Word × Byte)} {sp v : Byte} (h : Stores s t l)
    (hram : u.ram = t.ram) (hmem : (stackAddr sp, v) ∈ l) : u.byteAt (stackAddr sp) = v := by
  have hself : storedAt (stackAddr sp) (stackAddr sp) := .inl ⟨stackAddr_ram sp, stackAddr_ram sp, rfl⟩
  rw [byteAt_stack, hram, ← byteAt_stack]
  exact h.1 _ hmem _ hself

/-- RTS takes back the word that a JSR stacked, and adds the 1 (43_control_flow.md R202, R204). -/
theorem rts_undoes_jsr {s t u : State} {w : Word} (hs : s.Inv) (hjsr : exec (.jsr w) s = .next t)
    (hram : u.ram = t.ram) (hsp : u.sp = t.sp) :
    ∃ v, exec .rts u = .next v ∧ v.pc = s.pc ∧ v.sp = s.sp := by
  obtain ⟨t', ⟨-, hexec, hstores⟩, ht⟩ := jsrPushesItsReturnAddress w s hs
  obtain rfl : t = t' := by simpa [hjsr] using hexec
  replace hsp : u.sp = s.sp - 2#8 := by rw [hsp, ht]
  have h1 : u.sp + 1#8 = s.sp - 1#8 := by rw [hsp]; bv_omega
  have h2 : u.sp + 2#8 = s.sp := by rw [hsp, BitVec.sub_add_cancel]
  refine ⟨_, exec_rts u, ?_, h2⟩
  have hlo := byteAt_stack_of_stores hstores hram (.tail _ (.head _))
  have hhi := byteAt_stack_of_stores hstores hram (.head _)
  calc wordOf (u.byteAt (stackAddr (u.sp + 1#8))) (u.byteAt (stackAddr (u.sp + 2#8))) + 1#16
      = wordOf (loByte (s.pc - 1#16)) (hiByte (s.pc - 1#16)) + 1#16 := by rw [h1, h2, hlo, hhi]
    _ = s.pc := by rw [wordOf_lo_hi, BitVec.sub_add_cancel]

/-- The three bytes an NMI or IRQ sequence leaves on the stack, and `SP` (60_exceptions.md R255). -/
theorem stores_of_interrupt {s t : State} (hs : s.Inv)
    (ht : t = nmi s ∨ (getFlag .I s.p = false ∧ t = irq s)) :
    Stores s t [(stackAddr s.sp, hiByte s.pc), (stackAddr (s.sp - 1#8), loByte s.pc),
      (stackAddr (s.sp - 2#8), pushedByInterrupt s.p)] ∧ t.sp = s.sp - 3#8 := by
  rcases ht with rfl | ⟨hi, rfl⟩
  · rw [nmi_eq]
    exact ⟨stores_push_three hs _ _ _ rfl rfl rfl, rfl⟩
  · rw [irq_eq s hi]
    exact ⟨stores_push_three hs _ _ _ rfl rfl rfl, rfl⟩

theorem exec_rti (s : State) :
    exec .rti s = .next { s with
      p := pulledStatus (s.byteAt (stackAddr (s.sp + 1#8)))
      pc := wordOf (s.byteAt (stackAddr (s.sp + 2#8))) (s.byteAt (stackAddr (s.sp + 3#8)))
      sp := s.sp + 3#8, cycles := s.cycles + 6 } := by
  change finish 6 (returnFromException s) = _
  rw [returnFromException_eq, byteAt_stack, byteAt_stack, byteAt_stack]
  rfl

/-- Pulling the status byte of an interrupt gives back `P`, of which the invariant fixes `U` and `B`
(10_state.md R25). -/
theorem pulledStatus_pushedByInterrupt {p : Byte} (hu : getFlag .U p = true) (hb : getFlag .B p = false) :
    pulledStatus (pushedByInterrupt p) = p := by
  refine flags_ext fun f => ?_
  rw [getFlag_pulledStatus, getFlag_pushedByInterrupt]
  by_cases hfu : f = .U
  · simp [hfu, hu]
  by_cases hfb : f = .B
  · simp [hfb, hb]
  · simp [hfu, hfb]

/-- RTI takes back the three bytes that an NMI or IRQ sequence stacked (60_exceptions.md R263). -/
theorem rti_undoes_interrupt {s t u : State} (hs : s.Inv)
    (ht : t = nmi s ∨ (getFlag .I s.p = false ∧ t = irq s)) (hram : u.ram = t.ram) (hsp : u.sp = t.sp) :
    ∃ v, exec .rti u = .next v ∧ v.pc = s.pc ∧ v.p = s.p ∧ v.sp = s.sp := by
  obtain ⟨hstores, htsp⟩ := stores_of_interrupt hs ht
  rw [htsp] at hsp
  have h1 : u.sp + 1#8 = s.sp - 2#8 := by rw [hsp]; bv_omega
  have h2 : u.sp + 2#8 = s.sp - 1#8 := by rw [hsp]; bv_omega
  have h3 : u.sp + 3#8 = s.sp := by rw [hsp, BitVec.sub_add_cancel]
  have hhi := byteAt_stack_of_stores hstores hram (.head _)
  have hlo := byteAt_stack_of_stores hstores hram (.tail _ (.head _))
  have hp := byteAt_stack_of_stores hstores hram (.tail _ (.tail _ (.head _)))
  refine ⟨_, exec_rti u, ?samePc, ?sameP, h3⟩
  case samePc => rw [h2, h3, hlo, hhi, wordOf_lo_hi]
  case sameP => rw [h1, hp, pulledStatus_pushedByInterrupt hs.unused hs.break_]

/-- Settles O28: `rts_undoes_jsr` and `rti_undoes_interrupt`. -/
theorem returnsUndoCallsAndInterrupts : Obligations.ReturnsUndoCallsAndInterrupts :=
  fun _ _ hs => ⟨fun _ _ => rts_undoes_jsr hs, fun _ => rti_undoes_interrupt hs⟩

end Sys2Proof.Claims

/-! ## Stack, flags and system (44_stack_flag_system.md) -/

namespace Sys2Proof.Claims

open Sys2Proof.Machine

/-! ### Pushes -/

/-- A row that pushes one byte, three cycles long (44_stack_flag_system.md R231, R233). -/
theorem completes_push {s : State} (hs : s.Inv) {i : Instr} {op v : Byte} (henc : encode i = [op])
    (hexec : exec i s = finish 3 (push v s)) :
    ∃ t, Completes i [op] s t [(stackAddr s.sp, v)] ∧
      t = { s with ram := t.ram, sp := s.sp - 1#8, cycles := s.cycles + 3 } := by
  rw [push_eq] at hexec
  exact ⟨_, ⟨henc, hexec, stores_push hs v rfl rfl rfl⟩, rfl⟩

/-- Settles O22: PHA pushes `A`, PHP the byte of `pushedByInstruction` (`completes_push`). -/
theorem pushesStoreOneByteBelow : Obligations.PushesStoreOneByteBelow := by
  intro s hs Row
  exact ⟨completes_push hs rfl rfl, _, setsFlags_pushedByInstruction s.p, completes_push hs rfl rfl⟩

/-! ### Pulls -/

/-- A pull is a bus read of the stack byte above `SP` (10_state.md R23). -/
theorem pull_eq_byteAt (s : State) :
    pull s = (s.byteAt (stackAddr (s.sp + 1#8)), { s with sp := s.sp + 1#8 }) := by
  rw [pull_eq, byteAt_stack]

theorem exec_pla (s : State) :
    exec .pla s = .next { s with
      a := s.byteAt (stackAddr (s.sp + 1#8)), p := setZN (s.byteAt (stackAddr (s.sp + 1#8))) s.p
      sp := s.sp + 1#8, cycles := s.cycles + 4 } := by
  change finish 4 (loadA (pull s).1 (pull s).2) = _
  rw [pull_eq_byteAt]
  rfl

theorem exec_plp (s : State) :
    exec .plp s = .next { s with
      p := pulledStatus (s.byteAt (stackAddr (s.sp + 1#8))), sp := s.sp + 1#8, cycles := s.cycles + 4 } := by
  change finish 4 ((pull s).2.setP (pulledStatus (pull s).1)) = _
  rw [pull_eq_byteAt]
  rfl

/-- Settles O23: the whole states are `exec_pla` and `exec_plp`; the flags are those of `setZN` and of
`pulledStatus`. -/
theorem pullsTakeTheByteAbove : Obligations.PullsTakeTheByteAbove := by
  intro s v
  refine ⟨⟨_, setsFlags_zn s.p v, ?pla⟩, ⟨_, setsFlags_pulledStatus v, ?plp⟩⟩
  case pla => exact ⟨rfl, exec_pla s, stores_nil rfl rfl rfl⟩
  case plp => exact ⟨rfl, exec_plp s, stores_nil rfl rfl rfl⟩

/-! ### Flag instructions and NOP -/

/-- Settles O24: each flag row is one `setFlag`; NOP only takes its two cycles. -/
theorem flagInstructionsWriteOneFlag : Obligations.FlagInstructionsWriteOneFlag := by
  intro s Row
  refine ⟨?clc, ?sec, ?cli, ?sei, ?clv, ?cld, ?sed, ?nop⟩
  case clc | sec | cli | sei | clv | cld | sed => exact registerRow_of (setsFlags_setFlag _ _ _) rfl rfl
  case nop => exact ⟨rfl, rfl, stores_nil rfl rfl rfl⟩

/-! ### BRK and RTI -/

theorem exec_brk (s : State) :
    exec .brk s = .next { s with
      ram := ((s.ram.write (0x0100 + s.sp.toNat) (hiByte (s.pc + 1#16))).write (0x0100 + (s.sp - 1#8).toNat)
        (loByte (s.pc + 1#16))).write (0x0100 + (s.sp - 2#8).toNat) (pushedByInstruction s.p)
      sp := s.sp - 3#8, p := setFlag .I true s.p
      pc := wordOf (s.byteAt 0xFFFE#16) (s.byteAt 0xFFFF#16), cycles := s.cycles + 7 } := by
  change finish 7 (takeException (s.pc + 1#16) (pushedByInstruction s.p) irqVector s) = _
  rw [takeException_eq _ _ _ _ (by decide) (by decide), byteAt_rom s (by decide), byteAt_rom s (by decide)]
  rfl

/-- Settles O25: the whole state is `exec_brk`; the invariant makes the three pushed bytes readable
(`stores_push_three`). -/
theorem brkTakesTheInterruptSequence : Obligations.BrkTakesTheInterruptSequence := by
  intro s hs
  refine ⟨_, _, setsFlags_pushedByInstruction s.p, ?flags, ⟨rfl, exec_brk s, ?stores⟩, ?vector, rfl⟩
  case flags => exact setsFlags_setFlag s.p .I true
  case stores => exact stores_push_three hs _ _ _ rfl rfl rfl
  case vector => exact wordOf_toNat _ _

/-- Settles O26: the whole state is `exec_rti`, with the pulled address as a number. -/
theorem rtiRestoresStatusAndPc : Obligations.RtiRestoresStatusAndPc := by
  intro s
  refine ⟨_, setsFlags_pulledStatus _, rfl, ?_, stores_nil rfl rfl rfl⟩
  rw [exec_rti, ← wordOf_toNat, BitVec.ofNat_toNat, BitVec.setWidth_eq]

end Sys2Proof.Claims

/-! ## Interrupts, faults, the stepping loop and the controllers (60_exceptions.md) -/

namespace Sys2Proof.Claims

open Sys2Proof.Machine

/-! ### One step -/

/-- A request for an NMI is taken first, and cleared (60_exceptions.md R260). -/
theorem takePending_nmi {s : State} (hn : s.ppu.nmiPending = true) :
    takePending s = some (nmi (withoutNmi s)) := by
  simp only [takePending, hn, if_true]
  rfl

/-- Without one a high `irq_line` is taken while `I` is 0 (60_exceptions.md R260). -/
theorem takePending_irq {s : State} (hn : s.ppu.nmiPending = false) (hq : s.irqLine = true)
    (hi : getFlag .I s.p = false) : takePending s = some (irq s) := by
  simp [takePending, hn, hq, hi]

/-- A step that takes an interrupt sequence is its seven cycles, three dots each (60_exceptions.md R255,
R270). -/
theorem step_of_takePending_some {s u : State} (h : takePending s = some u) :
    step s = .next (ppuTicks 21 u) := by
  obtain ⟨-, hcycles⟩ := takePending_some h
  simp only [step, stepInstruction, h, catchUp, hcycles, Nat.add_sub_cancel_left, Nat.reduceMul]

/-- Settles O29: what `takePending` gives in each of the three cases decides the step. -/
theorem stepTakesEventsInOrder : Obligations.StepTakesEventsInOrder := by
  intro s
  refine ⟨fun hn => ?nmi, fun hn hq hi => ?irq, fun hn hmasked => ?instruction⟩
  case nmi => exact step_of_takePending_some (takePending_nmi hn)
  case irq => exact step_of_takePending_some (takePending_irq hn hq hi)
  case instruction => exact step_of_takePending_none ((takePending_none s).2 ⟨hn, hmasked⟩)

/-! ### Faults -/

theorem fetchByte_fst (s : State) : (fetchByte s).1 = s.byteAt s.pc := rfl

/-- The fetched instruction is one that the row of the byte at `PC` builds (30_encoding.md R100, R115). -/
theorem exists_fetchInstr_eq_rowInstr (s : State) :
    ∃ b w, (fetchInstr s).1 = rowInstr (s.byteAt s.pc) b w := by
  cases hform : opcodeForm (s.byteAt s.pc) with
  | f1 i => exact ⟨0, 0, by simp only [fetchInstr, fetchByte_fst, hform, rowInstr]⟩
  | f2 build => exact ⟨(fetchByte (fetchByte s).2).1, 0, by simp only [fetchInstr, fetchByte_fst, hform, rowInstr]⟩
  | f3 build =>
    let lo := fetchByte (fetchByte s).2
    exact ⟨0, operand16 lo.1 (fetchByte lo.2).1, by simp only [fetchInstr, fetchByte_fst, hform, rowInstr, lo]⟩

/-- The row of an illegal byte has no operand. -/
theorem opcodeForm_of_not_documented {op : Byte} (h : opcodeDocumented op = false) :
    ∃ i, opcodeForm op = .f1 i := by
  unfold opcodeDocumented at h
  cases hform : opcodeForm op with
  | f1 i => exact ⟨i, rfl⟩
  | f2 build | f3 build => simp [hform] at h

/-- Nothing is fetched after an illegal byte (60_exceptions.md R251). -/
theorem fetchInstr_pc_of_not_documented {s : State} (h : opcodeDocumented (s.byteAt s.pc) = false) :
    (fetchInstr s).2.pc = s.pc + 1#16 := by
  obtain ⟨i, hform⟩ := opcodeForm_of_not_documented h
  simp only [fetchInstr, fetchByte_fst, hform]
  rw [fetchByte_eq]

/-- The row of an illegal byte faults with that byte (60_exceptions.md R251). -/
theorem exec_rowInstr_of_not_documented {op : Byte} (h : opcodeDocumented op = false) (b : Byte) (w : Word)
    (s : State) : exec (rowInstr op b w) s = .fault (.illegalOpcode op (s.pc - 1#16)) := by
  have hwf : (rowInstr op b w).wellFormed = false := (wellFormed_rowInstr op b w).trans h
  obtain ⟨byte, hbytes, -, hfault⟩ := illegalRowsRaiseIllegalOpcode _ hwf
  obtain rfl : byte = op := by
    simpa [hbytes] using encode_eq_singleton (head?_encode_rowInstr op b w) hwf
  exact hfault s

/-- A step completes unless it fetches an illegal byte. -/
theorem step_completes {s : State}
    (h : takePending s = none → opcodeDocumented (s.byteAt s.pc) = true) : ∃ t, step s = .next t := by
  cases hpending : takePending s with
  | some u => exact ⟨_, step_of_takePending_some hpending⟩
  | none =>
    obtain ⟨b, w, hrow⟩ := exists_fetchInstr_eq_rowInstr s
    obtain ⟨t, ht, -⟩ := everyDocumentedInstructionCompletes (rowInstr (s.byteAt s.pc) b w) (fetchInstr s).2
      ((wellFormed_rowInstr _ b w).trans (h hpending))
    rw [step_of_takePending_none hpending, hrow, ht]
    exact ⟨_, rfl⟩

/-- A step that fetches an illegal byte faults with the byte and its address. -/
theorem step_faults {s : State} (hpending : takePending s = none)
    (hop : opcodeDocumented (s.byteAt s.pc) = false) :
    step s = .fault (.illegalOpcode (s.byteAt s.pc) s.pc) := by
  obtain ⟨b, w, hrow⟩ := exists_fetchInstr_eq_rowInstr s
  rw [step_of_takePending_none hpending, hrow, exec_rowInstr_of_not_documented hop,
    fetchInstr_pc_of_not_documented hop, BitVec.add_sub_cancel]
  rfl

/-- Settles O31: a step either completes (`step_completes`) or faults (`step_faults`). -/
theorem stepFaultsExactlyOnIllegalOpcodes : Obligations.StepFaultsExactlyOnIllegalOpcodes := by
  intro s
  by_cases hfault : takePending s = none ∧ opcodeDocumented (s.byteAt s.pc) = false
  · obtain ⟨hpending, hop⟩ := hfault
    rw [step_faults hpending hop]
    exact ⟨fun r => by simp [hpending, hop, eq_comm], nofun⟩
  · have hdocumented : takePending s = none → opcodeDocumented (s.byteAt s.pc) = true := by simpa using hfault
    obtain ⟨t, ht⟩ := step_completes hdocumented
    rw [ht]
    exact ⟨fun r => ⟨nofun, fun ⟨hpending, hop, _⟩ => absurd ⟨hpending, hop⟩ hfault⟩, nofun⟩

/-! ### The PPU's clock -/

/-- Settles O35: no action of an instruction moves the PPU (`Reaches.position`), and each tick after it
moves the clock by one dot (`ppuTicks_clock`). -/
theorem ppuAdvancesThreeDotsPerCycle : Obligations.PpuAdvancesThreeDotsPerCycle := by
  intro s t _ h
  obtain ⟨u, hu, hcycles, rfl⟩ := step_next h
  have hclock : u.ppu.clock = s.ppu.clock := (step_reaches hu).elim (·.position.2) (·.position.2)
  have hticks : (ppuTicks (3 * (u.cycles - s.cycles)) u).cycles = u.cycles := by rw [ppuTicks_eq]
  rw [ppuTicks_clock, hticks, hclock]
  exact ⟨by omega, hcycles⟩

/-! ### The frame loop -/

/-- What steps from `s` to `t` have kept, and how far they have come. -/
structure Advances (s t : State) : Prop where
  inv : t.Inv
  frameParity : t.frameParity = s.frameParity
  cycles : s.cycles ≤ t.cycles
  clock : t.ppu.clock = s.ppu.clock + 3 * ((t.cycles : Int) - s.cycles)

theorem Advances.refl {s : State} (hs : s.Inv) : Advances s s := ⟨hs, rfl, Nat.le_refl _, by omega⟩

theorem Advances.trans {s t u : State} (h : Advances s t) (h' : Advances t u) : Advances s u :=
  ⟨h'.inv, h'.frameParity.trans h.frameParity, Nat.le_trans h.cycles h'.cycles, by
    rw [h'.clock, h.clock]
    omega⟩

theorem advances_of_step {s t : State} (hs : s.Inv) (h : step s = .next t) : Advances s t := by
  obtain ⟨-, -, -, hparity, -⟩ := stepLeavesCartridgeAndInputsAlone s t h
  obtain ⟨hclock, hcycles⟩ := ppuAdvancesThreeDotsPerCycle s t hs h
  exact ⟨stepKeepsTheInvariant s t hs h, hparity, by omega, hclock⟩

/-- A round of the loop below the target: one step, then the rest or the fault (60_exceptions.md R272,
R273). -/
theorem frameLoop_round {target acc : Nat} (fuel : Nat) (s : State) (h : acc < target) :
    (∃ u, step s = .next u ∧
      frameLoop target (fuel + 1) acc s = frameLoop target fuel (acc + (u.cycles - s.cycles)) u) ∨
    ∃ r, frameLoop target (fuel + 1) acc s = .faulted r (stateAtFault s) := by
  rw [frameLoop, if_neg (by omega)]
  cases hstep : step s with
  | next u => exact .inl ⟨u, rfl, rfl⟩
  | fault r => exact .inr ⟨r, rfl⟩
  | refused r => exact absurd hstep ((stepFaultsExactlyOnIllegalOpcodes s).2 r)

/-- At its target the loop returns, whatever fuel is left. -/
theorem frameLoop_done {target acc : Nat} (fuel : Nat) (s : State) (h : target ≤ acc) :
    frameLoop target fuel acc s = .returned s := by
  cases fuel with
  | zero => rfl
  | succ fuel => rw [frameLoop, if_pos h]

/-- What the loop may end with, begun at `s` with `acc` cycles counted: a state that has come as far as the
target, or the state of a fault. -/
def FrameEnds (target acc : Nat) (s : State) : FrameResult → Prop
  | .returned t => Advances s t ∧ target ≤ acc + (t.cycles - s.cycles)
  | .faulted _ left => left.frameParity = s.frameParity
  | .refused _ _ => False

/-- A fault leaves the parity as it was (60_exceptions.md R251, R273). -/
theorem stateAtFault_frameParity (s : State) : (stateAtFault s).frameParity = s.frameParity := by
  obtain ⟨-, -, -, hparity, -⟩ := (fetchByte_reaches s).outside
  exact hparity

/-- Steps before the loop count with it. -/
theorem FrameEnds.after {target acc : Nat} {s u : State} {r : FrameResult} (h : Advances s u)
    (hr : FrameEnds target (acc + (u.cycles - s.cycles)) u r) : FrameEnds target acc s r := by
  cases r with
  | returned t =>
    obtain ⟨hadvances, htarget⟩ := hr
    have := h.cycles
    have := hadvances.cycles
    exact ⟨h.trans hadvances, by omega⟩
  | faulted r left => exact Eq.trans hr h.frameParity
  | refused r left => exact hr

/-- The loop with enough fuel: every step counts at least one cycle (60_exceptions.md R272; log entry 11). -/
theorem frameLoop_ends {target fuel acc : Nat} {s : State} (hs : s.Inv) (hfuel : target ≤ acc + fuel) :
    FrameEnds target acc s (frameLoop target fuel acc s) := by
  induction fuel generalizing acc s with
  | zero =>
    rw [frameLoop_done 0 s (by omega)]
    exact ⟨.refl hs, by omega⟩
  | succ fuel ih =>
    by_cases hdone : target ≤ acc
    · rw [frameLoop_done (fuel + 1) s hdone]
      exact ⟨.refl hs, by omega⟩
    · rcases frameLoop_round fuel s (Nat.lt_of_not_le hdone) with ⟨u, hstep, hround⟩ | ⟨r, hround⟩
      · rw [hround]
        obtain ⟨-, hcycles⟩ := ppuAdvancesThreeDotsPerCycle s u hs hstep
        have hadvances := advances_of_step hs hstep
        exact .after hadvances (ih hadvances.inv (by omega))
      · rw [hround]
        exact stateAtFault_frameParity s

/-- A frame returns with the parity flipped once it has come as far as its target, or a fault ends it
(60_exceptions.md R272, R273). -/
theorem stepFrame_cases {s : State} (hs : s.Inv) :
    (∃ t, Advances s t ∧ s.cycles + frameTarget s ≤ t.cycles ∧
      stepFrame s = .returned (t.setFrameParity (!t.frameParity))) ∨
    ∃ r left, left.frameParity = s.frameParity ∧ stepFrame s = .faulted r left := by
  have hends := frameLoop_ends (target := frameTarget s) (fuel := frameTarget s) (acc := 0) hs (by omega)
  unfold stepFrame
  generalize frameLoop (frameTarget s) (frameTarget s) 0 s = result at hends ⊢
  cases result with
  | returned t =>
    obtain ⟨hadvances, htarget⟩ := hends
    have hcycles := hadvances.cycles
    exact .inl ⟨t, hadvances, by omega, rfl⟩
  | faulted r left => exact .inr ⟨r, left, hends, rfl⟩
  | refused r left => exact hends.elim

/-- Settles O60: the two cases of `stepFrame_cases`. -/
theorem stepFrameConsumesItsTarget : Obligations.StepFrameConsumesItsTarget := by
  intro s hs
  rcases stepFrame_cases hs with ⟨t, hadvances, htarget, hframe⟩ | ⟨r, left, hparity, hframe⟩
  · rw [hframe]
    refine ⟨?_, by simp, by simp⟩
    rintro _ ⟨⟩
    exact ⟨htarget, hadvances.clock, congrArg (!·) hadvances.frameParity, { hadvances.inv with }⟩
  · rw [hframe]
    refine ⟨by simp, ?_, by simp⟩
    rintro _ _ ⟨⟩
    exact hparity

/-! ### Interrupt sequences -/

/-- An NMI sequence writes work RAM, `SP`, `I` and the cycles, and `PC` from what the bus reads at its
vector (60_exceptions.md R255, R256). -/
theorem nmi_frame (s : State) :
    nmi s = { s with
      ram := (nmi s).ram, sp := s.sp - 3#8, p := setFlag .I true s.p
      pc := wordOf (s.byteAt 0xFFFA#16) (s.byteAt 0xFFFB#16), cycles := s.cycles + 7 } := by
  rw [byteAt_rom s (by decide), byteAt_rom s (by decide), nmi_eq]

/-- An IRQ sequence likewise, while `I` is 0 (60_exceptions.md R255, R257). -/
theorem irq_frame {s : State} (hi : getFlag .I s.p = false) :
    irq s = { s with
      ram := (irq s).ram, sp := s.sp - 3#8, p := setFlag .I true s.p
      pc := wordOf (s.byteAt 0xFFFE#16) (s.byteAt 0xFFFF#16), cycles := s.cycles + 7 } := by
  rw [byteAt_rom s (by decide), byteAt_rom s (by decide), irq_eq s hi]

/-- Settles O27: the stored bytes are those of `stores_of_interrupt`, everything else is in `nmi_frame` and
`irq_frame`. -/
theorem interruptSequencesSaveAndGoToTheirVector : Obligations.InterruptSequencesSaveAndGoToTheirVector := by
  intro s hs Enters
  have enters {t : State} {lo hi : Word} (ht : t = nmi s ∨ (getFlag .I s.p = false ∧ t = irq s))
      (hframe : t = { s with
        ram := t.ram, sp := s.sp - 3#8, p := setFlag .I true s.p
        pc := wordOf (s.byteAt lo) (s.byteAt hi), cycles := s.cycles + 7 }) : Enters t lo hi := by
    have hp : t.p = setFlag .I true s.p := congrArg State.p hframe
    have hpc : t.pc = wordOf (s.byteAt lo) (s.byteAt hi) := congrArg State.pc hframe
    refine ⟨_, setsFlags_pushedByInterrupt s.p, ?flags, (stores_of_interrupt hs ht).1, ?vector, ?frame⟩
    case flags => exact hp ▸ setsFlags_setFlag s.p .I true
    case vector => rw [hpc, wordOf_toNat]
    case frame => rw [hp, hpc]; exact hframe
  refine ⟨?nmi, fun hi => ?irq, fun hi => ?masked⟩
  case nmi => exact enters (.inl rfl) (nmi_frame s)
  case irq => exact enters (.inr ⟨hi, rfl⟩) (irq_frame hi)
  case masked => rw [irq, if_pos hi]

/-! ### Controllers -/

/-- After a latch sequence the strobe is low and the index 0 (60_exceptions.md R280). -/
theorem write_latch {v1 v0 : Byte} (h1 : bitOf v1 0 = true) (h0 : bitOf v0 0 = false) (c : Controller) :
    (c.write v1).write v0 = { c with strobe := false, shiftIndex := 0 } := by
  simp [Controller.write, h1, h0]

/-- While the strobe is low `n` reads move the index from 0 by `n`, and stop it at 8
(60_exceptions.md R281). -/
theorem repeat_afterRead_of_latched {c : Controller} (hs : c.strobe = false) (h0 : c.shiftIndex = 0) (n : Nat) :
    Nat.repeat Controller.afterRead n c = { c with shiftIndex := min n 8 } := by
  induction n with
  | zero => rw [Nat.repeat, Nat.zero_min, ← h0]
  | succ n ih =>
    rw [Nat.repeat, ih]
    by_cases hn : n < 8
    · have hbefore : min n 8 = n := by omega
      have hafter : min (n + 1) 8 = n + 1 := by omega
      simp only [Controller.afterRead, hs, hbefore, hafter, hn, Bool.false_eq_true, if_false, if_true]
    · have hbefore : min n 8 = 8 := by omega
      have hafter : min (n + 1) 8 = 8 := by omega
      simp only [Controller.afterRead, hs, hbefore, hafter, Nat.lt_irrefl, Bool.false_eq_true, if_false]

/-- While the strobe is high reads change nothing (60_exceptions.md R281). -/
theorem repeat_afterRead_of_strobe {c : Controller} (hs : c.strobe = true) (n : Nat) :
    Nat.repeat Controller.afterRead n c = c := by
  induction n with
  | zero => rfl
  | succ n ih => rw [Nat.repeat, ih, Controller.afterRead, if_pos hs]

/-- Settles O45: the controller after any number of reads, from each of the two states of the strobe. -/
theorem controllersShiftOutTheButtons : Obligations.ControllersShiftOutTheButtons := by
  intro c v1 v0 n h1 h0
  refine ⟨?latched, ?strobed, fun hs => ?low⟩
  case latched =>
    rw [write_latch h1 h0, repeat_afterRead_of_latched rfl rfl]
    by_cases hn : n < 8
    · have hindex : min n 8 = n := by omega
      simp only [Controller.readBit, hindex, hn, Bool.false_eq_true, if_false, if_true]
    · have hindex : min n 8 = 8 := by omega
      simp only [Controller.readBit, hindex, hn, Nat.lt_irrefl, Bool.false_eq_true, if_false]
  case strobed =>
    have hstrobe : (c.write v1).strobe = true := h1
    rw [repeat_afterRead_of_strobe hstrobe, Controller.readBit, if_pos hstrobe]
    rfl
  case low =>
    obtain ⟨buttons, strobe, shiftIndex⟩ := c
    obtain rfl : strobe = false := hs
    simp [Controller.write, h0]

/-! ### The NMI request and the VBlank flag -/

/-- Moving the counters leaves the request and `status` as the actions of the dot made them. -/
theorem tick_nmiPending_status (env : PpuEnv) (p : Ppu) :
    (p.tick env).nmiPending = (p.dotActions env).nmiPending ∧
    (p.tick env).status = (p.dotActions env).status := by
  obtain ⟨-, hsame⟩ := advanceCounters_frame (p.dotActions env)
  exact ⟨hsame.nmiPending, hsame.status⟩

theorem bitOf_or (v w : Byte) (i : Nat) : bitOf (v ||| w) i = (bitOf v i || bitOf w i) := BitVec.getLsbD_or

theorem bitOf_and (v w : Byte) (i : Nat) : bitOf (v &&& w) i = (bitOf v i && bitOf w i) := BitVec.getLsbD_and

/-- Setting another bit of `status` leaves the VBlank flag as it was. -/
theorem bitOf_or_vblank {mask : Byte} (h : bitOf mask 7 = false) (status : Byte) :
    bitOf (status ||| mask) 7 = bitOf status 7 := by
  rw [bitOf_or, h, Bool.or_false]

/-- A pixel sets bit 6 of `status` at most (62_ppu.md R353). -/
theorem outputPixel_vblank (s x : Nat) (p : Ppu) : bitOf (p.outputPixel s x).status 7 = bitOf p.status 7 := by
  simp only [Ppu.outputPixel]
  split
  · exact bitOf_or_vblank rfl _
  · rfl

/-- Sprite evaluation sets bit 5 of `status` at most (62_ppu.md R346). -/
theorem evaluateEntry_vblank (s k : Nat) (p : Ppu) :
    bitOf (p.evaluateEntry s k).status 7 = bitOf p.status 7 := by
  unfold Ppu.evaluateEntry
  split
  · split
    · rfl
    · exact bitOf_or_vblank rfl _
  · rfl

theorem scanEntries_vblank (s k : Nat) (p : Ppu) :
    bitOf (p.scanEntries s k).status 7 = bitOf p.status 7 := by
  induction k with
  | zero => rfl
  | succ k ih => exact (evaluateEntry_vblank s k _).trans ih

theorem fetchSprites_status (env : PpuEnv) (s n : Nat) (p : Ppu) :
    (p.fetchSprites env s n).status = p.status := by
  rw [fetchSprites_eq]

theorem spriteDot_vblank (env : PpuEnv) (s : Int) (p : Ppu) :
    bitOf (p.spriteDot env s).status 7 = bitOf p.status 7 := by
  unfold Ppu.spriteDot
  split
  · simp only [Ppu.evaluateSprites]
    rw [fetchSprites_status, scanEntries_vblank]
    rfl
  · rfl

/-- The work of a render line leaves the VBlank flag alone (62_ppu.md R330). -/
theorem renderDot_vblank (env : PpuEnv) (s : Int) (d : Nat) (p : Ppu) :
    bitOf (p.renderDot env s d).status 7 = bitOf p.status 7 := by
  by_cases hd : d = 257
  · subst hd
    rw [renderDot_257, spriteDot_vblank]
    split <;> rfl
  · have hpixel : bitOf (if 0 ≤ s ∧ 1 ≤ d ∧ d ≤ 256 then p.outputPixel s.toNat (d - 1) else p).status 7 =
        bitOf p.status 7 := by
      split
      · exact outputPixel_vblank _ _ p
      · rfl
    simp only [renderDot_ne_257 env s p hd]
    split
    · rw [(renderFetch_frame env s d _).2.status, hpixel]
    · exact hpixel

/-- The request of a render line stays; a line from 240 on requests at (241, 1) only. -/
theorem tick_nmiPending (env : PpuEnv) (p : Ppu) :
    (p.tick env).nmiPending =
      (p.nmiPending || (decide (p.scanline = 241) && decide (p.dot = 1) && bitOf p.ctrl 7)) := by
  rw [(tick_nmiPending_status env p).1]
  by_cases hline : p.scanline ≤ 239
  · have hvisible : p.scanline ≠ 241 := by omega
    rw [dotActions_renderLine env hline, (renderDot_frame env _ _ _).2]
    split <;> simp [hvisible, Ppu.clearFlags]
  · rw [dotActions_idleLine env (by omega)]
    split
    · rename_i hstart
      simp [Ppu.startVBlank, hstart]
    · rename_i hother
      simp [← Bool.decide_and, hother]

/-- At (241, 1) bit 7 of `status` is set and nothing else changes there (62_ppu.md R331). -/
theorem tick_status_vblankStart (env : PpuEnv) {p : Ppu} (hline : p.scanline = 241) (hdot : p.dot = 1) :
    (p.tick env).status = p.status ||| 0x80#8 := by
  rw [(tick_nmiPending_status env p).2, dotActions_idleLine env (by omega), if_pos ⟨hline, hdot⟩]
  rfl

/-- At (-1, 1) bits 7 to 5 of `status` are cleared, and no pixel or sprite is due (62_ppu.md R332). -/
theorem tick_status_preRender (env : PpuEnv) {p : Ppu} (hline : p.scanline = -1) (hdot : p.dot = 1) :
    (p.tick env).status = p.status &&& 0x1F#8 := by
  rw [(tick_nmiPending_status env p).2, dotActions_renderLine env (by omega), if_pos ⟨hline, hdot⟩,
    (renderDot_noPixel env _ _ (by omega)).2 (by omega)]
  rfl

/-- At every other position the VBlank flag stays (62_ppu.md R331, R332). -/
theorem tick_vblank_of_ne (env : PpuEnv) {p : Ppu} (hstart : ¬ (p.scanline = 241 ∧ p.dot = 1))
    (hpre : ¬ (p.scanline = -1 ∧ p.dot = 1)) : bitOf (p.tick env).status 7 = bitOf p.status 7 := by
  rw [(tick_nmiPending_status env p).2]
  by_cases hline : p.scanline ≤ 239
  · rw [dotActions_renderLine env hline, if_neg hpre, renderDot_vblank]
  · rw [dotActions_idleLine env (by omega), if_neg hstart]

theorem bitOf_or_0x80 (status : Byte) {i : Nat} (hi : i < 8) :
    bitOf (status ||| 0x80#8) i = (bitOf status i || decide (i = 7)) := by
  have hmask : ∀ i, i < 8 → bitOf 0x80#8 i = decide (i = 7) := by decide
  rw [bitOf_or, hmask i hi]

theorem bitOf_and_0x1F (status : Byte) {i : Nat} (hi : i < 8) :
    bitOf (status &&& 0x1F#8) i = (decide (i < 5) && bitOf status i) := by
  have hmask : ∀ i, i < 8 → bitOf 0x1F#8 i = decide (i < 5) := by decide
  rw [bitOf_and, hmask i hi, Bool.and_comm]

/-- Settles O48: the request is `tick_nmiPending`; `status` is known whole at its two positions, and its
bit 7 stays elsewhere; an instruction is a run of actions that keep the request (`Reaches.position`). -/
theorem nmiRequestsComeFromVBlankStartOnly : Obligations.NmiRequestsComeFromVBlankStartOnly := by
  refine ⟨fun env p => ⟨tick_nmiPending env p, ?flag, fun hline hdot i hi => ?preRender,
    fun hline hdot i hi => ?vblankStart⟩, fun i s t h => (exec_next h).1.position.1⟩
  case flag =>
    split
    · rename_i hstart
      rw [tick_status_vblankStart env hstart.1 hstart.2, bitOf_or_0x80 _ (by decide)]
      exact Bool.or_true _
    · rename_i hstart
      split
      · rename_i hpre
        rw [tick_status_preRender env hpre.1 hpre.2, bitOf_and_0x1F _ (by decide)]
        rfl
      · rename_i hpre
        exact tick_vblank_of_ne env hstart hpre
  case preRender => rw [tick_status_preRender env hline hdot, bitOf_and_0x1F _ hi]
  case vblankStart =>
    rw [tick_status_vblankStart env hline hdot, bitOf_or_0x80 _ (by omega), decide_eq_false (by omega),
      Bool.or_false]

end Sys2Proof.Claims

/-! ## The PPU: its registers, its tick, sprites and pixels (62_ppu.md) -/

namespace Sys2Proof.Claims

open Sys2Proof.Machine

/-! ### The register window -/

/-- A statement about the bits of a 15-bit register is one about its fifteen bits: above them it reads 0. -/
theorem bitOf_vramReg_eq {x : VramReg} {f : Nat → Bool}
    (hlow : bitOf x 0 = f 0 ∧ bitOf x 1 = f 1 ∧ bitOf x 2 = f 2 ∧ bitOf x 3 = f 3 ∧ bitOf x 4 = f 4 ∧
      bitOf x 5 = f 5 ∧ bitOf x 6 = f 6 ∧ bitOf x 7 = f 7 ∧ bitOf x 8 = f 8 ∧ bitOf x 9 = f 9 ∧
      bitOf x 10 = f 10 ∧ bitOf x 11 = f 11 ∧ bitOf x 12 = f 12 ∧ bitOf x 13 = f 13 ∧ bitOf x 14 = f 14)
    (hhigh : ∀ i, 15 ≤ i → f i = false) : ∀ i, bitOf x i = f i := by
  obtain ⟨h0, h1, h2, h3, h4, h5, h6, h7, h8, h9, h10, h11, h12, h13, h14⟩ := hlow
  intro i
  rcases Nat.lt_or_ge i 15 with hi | hi
  · rcases lt_fifteen hi with
      rfl | rfl | rfl | rfl | rfl | rfl | rfl | rfl | rfl | rfl | rfl | rfl | rfl | rfl | rfl <;> assumption
  · rw [hhigh i hi]
    exact BitVec.getLsbD_of_ge x i hi

/-- PPUCTRL puts bits 1 and 0 of the byte into bits 11 and 10 of `t` (62_ppu.md R320). -/
theorem bitOf_writeCtrl_t (v : Byte) (p : Ppu) :
    ∀ i, bitOf (p.writeCtrl v).t i =
      if i = 10 then bitOf v 0 else if i = 11 then bitOf v 1 else bitOf p.t i := by
  refine bitOf_vramReg_eq ?_ fun i hi => ?_
  · simp [bitOf, Ppu.writeCtrl]
  · rw [if_neg (by omega), if_neg (by omega)]
    exact BitVec.getLsbD_of_ge p.t i hi

/-- The first PPUSCROLL write puts bits 7 to 3 into coarse X (62_ppu.md R325). -/
theorem bitOf_writeScroll_first_t (v : Byte) {p : Ppu} (h : p.writeToggle = false) :
    ∀ i, bitOf (p.writeScroll v).t i = if i < 5 then bitOf v (i + 3) else bitOf p.t i := by
  simp only [Ppu.writeScroll, h, Bool.false_eq_true, if_false]
  refine bitOf_vramReg_eq ?_ fun i hi => ?_
  · simp [bitOf]
  · rw [if_neg (by omega)]
    exact BitVec.getLsbD_of_ge p.t i hi

/-- The first PPUSCROLL write puts bits 2 to 0 into `fine_x` (62_ppu.md R325). -/
theorem bitOf_writeScroll_first_fineX (v : Byte) {p : Ppu} (h : p.writeToggle = false) {i : Nat}
    (hi : i < 3) : bitOf (p.writeScroll v).fineX i = bitOf v i := by
  simp [Ppu.writeScroll, h, bitOf, hi]

/-- The second PPUSCROLL write puts bits 7 to 3 into coarse Y and bits 2 to 0 into fine Y
(62_ppu.md R325). -/
theorem bitOf_writeScroll_second_t (v : Byte) {p : Ppu} (h : p.writeToggle = true) :
    ∀ i, bitOf (p.writeScroll v).t i =
      if 5 ≤ i ∧ i < 10 then bitOf v (i - 2)
      else if 12 ≤ i ∧ i < 15 then bitOf v (i - 12) else bitOf p.t i := by
  simp only [Ppu.writeScroll, h, if_true]
  refine bitOf_vramReg_eq ?_ fun i hi => ?_
  · simp [bitOf]
  · rw [if_neg (by omega), if_neg (by omega)]
    exact BitVec.getLsbD_of_ge p.t i hi

/-- The first PPUADDR write gives bits 13 to 8 of `t`, and bit 14 is cleared (62_ppu.md R326). -/
theorem bitOf_writeAddr_first_t (v : Byte) {p : Ppu} (h : p.writeToggle = false) :
    ∀ i, bitOf (p.writeAddr v).t i =
      if i < 8 then bitOf p.t i else if i < 14 then bitOf v (i - 8) else false := by
  simp only [Ppu.writeAddr, h, Bool.false_eq_true, if_false]
  refine bitOf_vramReg_eq ?_ fun i hi => ?_
  · simp [bitOf]
  · rw [if_neg (by omega), if_neg (by omega)]

/-- The second PPUADDR write gives bits 7 to 0 of `t` (62_ppu.md R326). -/
theorem bitOf_writeAddr_second_t (v : Byte) {p : Ppu} (h : p.writeToggle = true) :
    ∀ i, bitOf (p.writeAddr v).t i = if i < 8 then bitOf v i else bitOf p.t i := by
  simp only [Ppu.writeAddr, h, if_true]
  refine bitOf_vramReg_eq ?_ fun i hi => ?_
  · simp [bitOf]
  · rw [if_neg (by omega)]
    exact BitVec.getLsbD_of_ge p.t i hi

/-- A write of any register but PPUDATA changes the PPU only (62_ppu.md R319). -/
theorem ppuRegWrite_ppuOnly {n : Nat} (hn : n ≠ 7) (v : Byte) (s : State) :
    ppuRegWrite n v s = { s with ppu := (ppuRegWrite n v s).ppu } := by
  unfold ppuRegWrite
  split <;> first | rfl | exact absurd rfl hn

/-- Settles O40: every mirror reaches `ppuRegWrite` (`memWrite_ppu`), and each register's effect on `t` is
known bit by bit. -/
theorem ppuRegisterWritesTakeTheirBits : Obligations.PpuRegisterWritesTakeTheirBits := by
  intro s addr v hlow hhigh
  rw [memWrite_ppu v s hlow hhigh]
  refine ⟨fun hn => ppuRegWrite_ppuOnly hn v s, ?ctrl, ?mask, ?status, ?oamAddr, ?oamData, ?scrollFirst,
    ?scrollSecond, ?addrFirst, ?addrSecond⟩
  case ctrl =>
    intro hn
    rw [hn]
    have hbits := bitOf_writeCtrl_t v s.ppu
    exact ⟨rfl, hbits 10, hbits 11, fun i h10 h11 => (hbits i).trans ((if_neg h10).trans (if_neg h11))⟩
  case mask | status | oamAddr | oamData =>
    intro hn
    rw [hn]
    rfl
  case scrollFirst =>
    intro hn ht
    rw [hn]
    refine ⟨?_, fun i => bitOf_writeScroll_first_fineX v ht, bitOf_writeScroll_first_t v ht⟩
    simp [ppuRegWrite, Ppu.writeScroll, ht]
  case scrollSecond =>
    intro hn ht
    rw [hn]
    refine ⟨?_, bitOf_writeScroll_second_t v ht⟩
    simp [ppuRegWrite, Ppu.writeScroll, ht]
  case addrFirst =>
    intro hn ht
    rw [hn]
    refine ⟨?_, bitOf_writeAddr_first_t v ht⟩
    simp [ppuRegWrite, Ppu.writeAddr, ht]
  case addrSecond =>
    intro hn ht
    rw [hn]
    refine ⟨?_, bitOf_writeAddr_second_t v ht⟩
    simp [ppuRegWrite, Ppu.writeAddr, ht]

/-- A mask keeps the bits it has. -/
theorem bitOf_and_eq {mask : Byte} {f : Nat → Bool} (h : ∀ i, i < 8 → bitOf mask i = f i) (v : Byte) (i : Nat) :
    bitOf (v &&& mask) i = (f i && bitOf v i) := by
  rw [bitOf_and, Bool.and_comm]
  rcases Nat.lt_or_ge i 8 with hi | hi
  · rw [h i hi]
  · have hv : bitOf v i = false := BitVec.getLsbD_of_ge v i hi
    rw [hv, Bool.and_false, Bool.and_false]

/-- Settles O41: a read reaches `ppuRegRead` through every mirror (`memRead_ppu`), and the two masks of
PPUSTATUS keep and clear their bits. -/
theorem ppuRegisterReadsHaveTheirEffects : Obligations.PpuRegisterReadsHaveTheirEffects := by
  intro s addr hlow hhigh
  rw [memRead_ppu s hlow hhigh]
  refine ⟨fun hn => ?status, fun hn => by rw [hn]; rfl, ?writeOnly⟩
  case status =>
    rw [hn]
    exact ⟨rfl, bitOf_and_eq (mask := 0xE0#8) (f := fun i => decide (5 ≤ i)) (by decide) _,
      bitOf_and_eq (mask := 0x7F#8) (f := fun i => decide (i ≠ 7)) (by decide) _⟩
  case writeOnly => rintro (hn | hn | hn | hn | hn) <;> rw [hn] <;> rfl

/-- The bus address of a PPUDATA access as a number (62_ppu.md R327). -/
theorem dataAddr_eq_ofNat (p : Ppu) : p.dataAddr = BitVec.ofNat 14 (p.v.toNat % 16384) := by
  apply BitVec.eq_of_toNat_eq
  rw [Ppu.dataAddr, BitVec.toNat_setWidth, BitVec.toNat_ofNat, Nat.mod_mod]

/-- `v` after a PPUDATA access as a number (62_ppu.md R327, R328). -/
theorem nextDataAddr_eq_ofNat (p : Ppu) :
    p.nextDataAddr = BitVec.ofNat 15 (p.v.toNat + if bitOf p.ctrl 2 then 32 else 1) := by
  rw [Ppu.nextDataAddr, BitVec.ofNat_add, BitVec.ofNat_toNat, BitVec.setWidth_eq]
  split <;> rfl

/-- The nametable byte under a palette address (62_ppu.md R327). -/
theorem sub_0x1000_eq_ofNat {a : PpuAddr} (h : 0x3F00 ≤ a.toNat) :
    a - 0x1000#14 = BitVec.ofNat 14 (a.toNat - 0x1000) := by
  have hle : 0x1000#14 ≤ a := BitVec.le_def.mpr (Nat.le_trans (by decide) h)
  apply BitVec.eq_of_toNat_eq
  rw [BitVec.toNat_sub_of_le hle, BitVec.toNat_ofNat, BitVec.toNat_ofNat]
  have := a.isLt
  omega

/-- Settles O42: the bus address and the next `v` are the numbers of the statement, and the region of the
address selects the byte and the refill. -/
theorem ppuDataPortIsBufferedAndMovesV : Obligations.PpuDataPortIsBufferedAndMovesV := by
  intro s addr val hlow hhigh hn
  rw [memRead_ppu s hlow hhigh, memWrite_ppu val s hlow hhigh, hn, ← dataAddr_eq_ofNat,
    ← nextDataAddr_eq_ofNat]
  refine ⟨fun hbelow => ?buffered, fun hpalette => ?direct, rfl⟩
  case buffered =>
    rw [ppuRegRead, Ppu.dataByte, Ppu.afterDataRead, if_pos hbelow, if_pos hbelow, State.setPpu]
  case direct =>
    have hnot : ¬ s.ppu.dataAddr.toNat < 0x3F00 := Nat.not_lt.mpr hpalette
    rw [ppuRegRead, Ppu.dataByte, Ppu.afterDataRead, if_neg hnot, if_neg hnot, sub_0x1000_eq_ofNat hpalette,
      State.setPpu]

/-! ### The counters -/

/-- The counters go to the next dot, the next scanline or the next frame and nothing else moves
(62_ppu.md R333). -/
theorem advanceCounters_eq (p : Ppu) :
    p.advanceCounters = { p with
      dot := if p.dot = 340 then 0 else p.dot + 1
      scanline := if p.dot = 340 then if p.scanline = 260 then -1 else p.scanline + 1 else p.scanline
      frameCount := if p.dot = 340 ∧ p.scanline = 260 then p.frameCount + 1 else p.frameCount } := by
  have hdot : p.dot + 1 = 341 ↔ p.dot = 340 := by omega
  have hline : p.scanline + 1 = 261 ↔ p.scanline = 260 := by omega
  rw [Ppu.advanceCounters]
  by_cases hd : p.dot = 340
  · by_cases hs : p.scanline = 260
    · rw [if_pos (hdot.mpr hd), if_pos (hline.mpr hs), if_pos hd, if_pos hd, if_pos hs, if_pos ⟨hd, hs⟩]
    · rw [if_pos (hdot.mpr hd), if_neg (mt hline.mp hs), if_pos hd, if_pos hd, if_neg hs,
        if_neg fun h => hs h.2]
  · rw [if_neg (mt hdot.mp hd), if_neg hd, if_neg hd, if_neg fun h => hd h.1]

/-- Settles O47: the actions of the dot leave the registers and the PPU's memories (`dotActions_frame`), then
the counters move (`advanceCounters_eq`). -/
theorem tickAdvancesTheCounters : Obligations.TickAdvancesTheCounters := by
  intro s
  have h := dotActions_frame s.ppuEnv s.ppu
  have hq : (ppuTick s).ppu = (s.ppu.dotActions s.ppuEnv).advanceCounters := rfl
  rw [hq, advanceCounters_eq, h.dot, h.scanline, h.frameCount]
  refine ⟨?whole, ?counters, h.ctrl, h.mask, h.oamAddr, h.t, h.fineX, h.writeToggle, h.readBuffer, h.vram,
    h.palette, h.oam⟩
  case whole => rw [← h.dot, ← h.scanline, ← h.frameCount, ← advanceCounters_eq]; rfl
  case counters =>
    by_cases hd : s.ppu.dot = 340
    · by_cases hs : s.ppu.scanline = 260
      · rw [if_pos hd, if_pos hd, if_pos hs, if_pos ⟨hd, hs⟩, if_pos hd, if_pos hs]
      · rw [if_pos hd, if_pos hd, if_neg hs, if_neg fun h => hs h.2, if_pos hd, if_neg hs]
    · rw [if_neg hd, if_neg hd, if_neg fun h => hd h.1, if_neg hd]

/-! ### The scroll registers by field -/

/-- A VRAM address register from its fields (10_state.md R36). -/
def scrollReg (fy : BitVec 3) (nv nh : BitVec 1) (cy cx : BitVec 5) : VramReg := fy ++ nv ++ nh ++ cy ++ cx

/-- A mask of one whole field. -/
def fieldMask (w : Nat) (keep : Bool) : BitVec w := if keep then BitVec.allOnes w else 0#w

theorem and_fieldMask {w : Nat} (x : BitVec w) (keep : Bool) : x &&& fieldMask w keep = if keep then x else 0#w := by
  cases keep
  · exact BitVec.and_zero
  · exact BitVec.and_allOnes

section ScrollFields

variable (fy fy' : BitVec 3) (nv nv' nh nh' : BitVec 1) (cy cy' cx cx' : BitVec 5)

theorem scrollReg_toNat : (scrollReg fy nv nh cy cx).toNat =
    fy.toNat * 4096 + nv.toNat * 2048 + nh.toNat * 1024 + cy.toNat * 32 + cx.toNat := by
  simp only [scrollReg, toNat_append_eq]
  omega

theorem scrollReg_and : scrollReg fy nv nh cy cx &&& scrollReg fy' nv' nh' cy' cx' =
    scrollReg (fy &&& fy') (nv &&& nv') (nh &&& nh') (cy &&& cy') (cx &&& cx') := by
  show (fy ++ nv ++ nh ++ cy ++ cx : BitVec (3 + 1 + 1 + 5 + 5)) &&& (fy' ++ nv' ++ nh' ++ cy' ++ cx') = _
  rw [BitVec.and_append, BitVec.and_append, BitVec.and_append, BitVec.and_append, scrollReg]

theorem scrollReg_xor : scrollReg fy nv nh cy cx ^^^ scrollReg fy' nv' nh' cy' cx' =
    scrollReg (fy ^^^ fy') (nv ^^^ nv') (nh ^^^ nh') (cy ^^^ cy') (cx ^^^ cx') := by
  show (fy ++ nv ++ nh ++ cy ++ cx : BitVec (3 + 1 + 1 + 5 + 5)) ^^^ (fy' ++ nv' ++ nh' ++ cy' ++ cx') = _
  rw [BitVec.xor_append, BitVec.xor_append, BitVec.xor_append, BitVec.xor_append, scrollReg]

/-- A mask of whole fields keeps those fields and clears the others. -/
theorem scrollReg_and_mask (keepFy keepNv keepNh keepCy keepCx : Bool) :
    scrollReg fy nv nh cy cx &&& scrollReg (fieldMask 3 keepFy) (fieldMask 1 keepNv) (fieldMask 1 keepNh)
      (fieldMask 5 keepCy) (fieldMask 5 keepCx) =
    scrollReg (if keepFy then fy else 0#3) (if keepNv then nv else 0#1) (if keepNh then nh else 0#1)
      (if keepCy then cy else 0#5) (if keepCx then cx else 0#5) := by
  rw [scrollReg_and, and_fieldMask, and_fieldMask, and_fieldMask, and_fieldMask, and_fieldMask]

theorem coarseX_scrollReg : coarseX (scrollReg fy nv nh cy cx) = scrollReg 0#3 0#1 0#1 0#5 cx :=
  scrollReg_and_mask fy nv nh cy cx false false false false true

theorem coarseYBits_scrollReg : coarseYBits (scrollReg fy nv nh cy cx) = scrollReg 0#3 0#1 0#1 cy 0#5 :=
  scrollReg_and_mask fy nv nh cy cx false false false true false

theorem scrollReg_and_0x7FE0 : scrollReg fy nv nh cy cx &&& 0x7FE0#15 = scrollReg fy nv nh cy 0#5 :=
  scrollReg_and_mask fy nv nh cy cx true true true true false

theorem scrollReg_and_0x0FFF : scrollReg fy nv nh cy cx &&& 0x0FFF#15 = scrollReg 0#3 nv nh cy cx :=
  scrollReg_and_mask fy nv nh cy cx false true true true true

theorem scrollReg_and_0x7C1F : scrollReg fy nv nh cy cx &&& 0x7C1F#15 = scrollReg fy nv nh 0#5 cx :=
  scrollReg_and_mask fy nv nh cy cx true true true false true

/-- Bit 10 is the horizontal nametable bit (62_ppu.md R340). -/
theorem scrollReg_xor_0x0400 : scrollReg fy nv nh cy cx ^^^ 0x0400#15 = scrollReg fy nv (~~~nh) cy cx := by
  refine (scrollReg_xor fy 0#3 nv 0#1 nh (BitVec.allOnes 1) cy 0#5 cx 0#5).trans ?_
  rw [BitVec.xor_zero, BitVec.xor_zero, BitVec.xor_zero, BitVec.xor_zero, BitVec.xor_allOnes]

/-- Bit 11 is the vertical nametable bit (62_ppu.md R341). -/
theorem scrollReg_xor_0x0800 : scrollReg fy nv nh cy cx ^^^ 0x0800#15 = scrollReg fy (~~~nv) nh cy cx := by
  refine (scrollReg_xor fy 0#3 nv (BitVec.allOnes 1) nh 0#1 cy 0#5 cx 0#5).trans ?_
  rw [BitVec.xor_zero, BitVec.xor_zero, BitVec.xor_zero, BitVec.xor_zero, BitVec.xor_allOnes]

theorem fineY_scrollReg : fineY (scrollReg fy nv nh cy cx) = fy := by
  apply BitVec.eq_of_toNat_eq
  rw [fineY_toNat, scrollReg_toNat]
  omega

/-- Coarse X is compared as a field. -/
theorem scrollReg_coarseX_eq_iff : scrollReg 0#3 0#1 0#1 0#5 cx = 31#15 ↔ cx = 31#5 :=
  BitVec.append_right_inj (0#3 ++ 0#1 ++ 0#1 ++ 0#5) (t₂ := 31#5)

/-- Coarse Y is compared as a field. -/
theorem scrollReg_coarseY_eq_iff : scrollReg 0#3 0#1 0#1 cy 0#5 = scrollReg 0#3 0#1 0#1 cy' 0#5 ↔ cy = cy' :=
  (BitVec.append_left_inj 0#5).trans (BitVec.append_right_inj _)

/-- `inc_x()` by field (62_ppu.md R340). -/
theorem incX_scrollReg : incX (scrollReg fy nv nh cy cx) =
    if cx = 31#5 then scrollReg fy nv (~~~nh) cy 0#5 else scrollReg fy nv nh cy (cx + 1#5) := by
  rw [incX, coarseX_scrollReg]
  by_cases hx : cx = 31#5
  · rw [if_pos ((scrollReg_coarseX_eq_iff cx).mpr hx), if_pos hx, scrollReg_and_0x7FE0, scrollReg_xor_0x0400]
  · rw [if_neg (mt (scrollReg_coarseX_eq_iff cx).mp hx), if_neg hx]
    have hlt : cx.toNat ≠ 31 := fun h => hx (BitVec.eq_of_toNat_eq h)
    apply BitVec.eq_of_toNat_eq
    simp only [BitVec.toNat_add, scrollReg_toNat, BitVec.toNat_ofNat]
    omega

/-- `inc_y()` by field (62_ppu.md R341). -/
theorem incY_scrollReg : incY (scrollReg fy nv nh cy cx) =
    if fy ≠ 7#3 then scrollReg (fy + 1#3) nv nh cy cx
    else if cy = 29#5 then scrollReg 0#3 (~~~nv) nh 0#5 cx
    else if cy = 31#5 then scrollReg 0#3 nv nh 0#5 cx
    else scrollReg 0#3 nv nh (cy + 1#5) cx := by
  have h29 := scrollReg_coarseY_eq_iff cy 29#5
  have h31 := scrollReg_coarseY_eq_iff cy 31#5
  simp only [incY, fineY_scrollReg, coarseYBits_scrollReg, scrollReg_and_0x0FFF, scrollReg_and_0x7C1F,
    scrollReg_xor_0x0800]
  by_cases hy : fy ≠ 7#3
  · rw [if_pos hy, if_pos hy]
    have hlt : fy.toNat ≠ 7 := fun h => hy (BitVec.eq_of_toNat_eq h)
    apply BitVec.eq_of_toNat_eq
    simp only [BitVec.toNat_add, scrollReg_toNat, BitVec.toNat_ofNat]
    omega
  · rw [if_neg hy, if_neg hy]
    refine ite_congr (propext h29) (fun _ => rfl) fun _ => ite_congr (propext h31) (fun _ => rfl) fun h => ?_
    have hlt : cy.toNat ≠ 31 := fun h' => h (BitVec.eq_of_toNat_eq h')
    apply BitVec.eq_of_toNat_eq
    simp only [BitVec.toNat_add, scrollReg_toNat, BitVec.toNat_ofNat]
    omega

end ScrollFields

/-- `copy_horizontal()` bit by bit: coarse X and bit 10 come from `t` (62_ppu.md R342). -/
theorem bitOf_copyHorizontal (v t : VramReg) :
    ∀ i, bitOf (copyHorizontal v t) i = if i < 5 ∨ i = 10 then bitOf t i else bitOf v i := by
  refine bitOf_vramReg_eq ?_ fun i hi => ?_
  · simp [bitOf, copyHorizontal]
  · rw [if_neg (by omega)]
    exact BitVec.getLsbD_of_ge v i hi

/-- `copy_vertical()` bit by bit: coarse X and bit 10 stay (62_ppu.md R343). -/
theorem bitOf_copyVertical (v t : VramReg) :
    ∀ i, bitOf (copyVertical v t) i = if i < 5 ∨ i = 10 then bitOf v i else bitOf t i := by
  refine bitOf_vramReg_eq ?_ fun i hi => ?_
  · simp [bitOf, copyVertical]
  · rw [if_neg (by omega)]
    exact BitVec.getLsbD_of_ge t i hi

/-- Moving the counters leaves the background as the actions of the dot made it. -/
theorem tick_background (env : PpuEnv) (p : Ppu) : SameBackground (p.dotActions env) (p.tick env) :=
  (advanceCounters_frame (p.dotActions env)).1

/-- Moving the counters leaves the sprites as the actions of the dot made them. -/
theorem tick_sprites (env : PpuEnv) (p : Ppu) : SameSprites (p.dotActions env) (p.tick env) :=
  (advanceCounters_frame (p.dotActions env)).2

/-- Away from (-1, 1) a tick of a render line is the work of its dot (62_ppu.md R330). -/
theorem dotActions_renderDot (env : PpuEnv) {p : Ppu} (hline : p.scanline ≤ 239)
    (hpre : ¬ (p.scanline = -1 ∧ p.dot = 1)) : p.dotActions env = p.renderDot env p.scanline p.dot := by
  rw [dotActions_renderLine env hline, if_neg hpre]

/-- Dot 257 of a render line is its sprite work, after the copy of the horizontal scroll (62_ppu.md R330). -/
theorem dotActions_dot257 (env : PpuEnv) {p : Ppu} (hline : p.scanline ≤ 239) (hdot : p.dot = 257) :
    p.dotActions env = p.renderDot env p.scanline 257 := by
  rw [dotActions_renderDot env hline (by omega), hdot]

theorem tick_v_copyHorizontal (env : PpuEnv) {p : Ppu} (hr : p.renderingEnabled = true)
    (hline : p.scanline ≤ 239) (hdot : p.dot = 257) : (p.tick env).v = copyHorizontal p.v p.t := by
  rw [(tick_background env p).v, dotActions_dot257 env hline hdot, renderDot_257,
    (spriteDot_frame env _ _).2.v, if_pos hr]

theorem tick_v_copyVertical (env : PpuEnv) {p : Ppu} (hr : p.renderingEnabled = true)
    (hline : p.scanline = -1) (hlow : 280 ≤ p.dot) (hhigh : p.dot ≤ 304) :
    (p.tick env).v = copyVertical p.v p.t := by
  rw [(tick_background env p).v, dotActions_renderDot env (by omega) (by omega),
    renderDot_ne_257 env _ p (by omega), if_pos hr, if_neg (by omega), Ppu.renderFetch,
    if_neg (by omega : ¬ ((1 ≤ p.dot ∧ p.dot ≤ 256) ∨ (321 ≤ p.dot ∧ p.dot ≤ 336))),
    if_neg (by omega : ¬ p.dot = 256), if_neg (by omega : ¬ p.dot = 257), if_pos ⟨hline, hlow, hhigh⟩]

/-- Settles O49: the increments are computed on the fields of the register, and the two copies bit by bit. -/
theorem scrollUpdatesByField : Obligations.ScrollUpdatesByField := by
  refine ⟨fun fy nv nh cy cx => ⟨incX_scrollReg fy nv nh cy cx, incY_scrollReg fy nv nh cy cx⟩,
    fun env p hr _ hline => ⟨fun hdot i _ => ?horizontal, fun hpre hlow hhigh i _ => ?vertical⟩⟩
  case horizontal =>
    rw [tick_v_copyHorizontal env hr hline hdot]
    exact bitOf_copyHorizontal p.v p.t i
  case vertical =>
    rw [tick_v_copyVertical env hr hpre hlow hhigh]
    exact bitOf_copyVertical p.v p.t i

/-! ### The background pipeline -/

/-- The low-plane fetch address of the background as a number (62_ppu.md R338). -/
theorem bgPatternAddr_toNat (p : Ppu) : p.bgPatternAddr.toNat =
    (if bitOf p.ctrl 4 then 0x1000 else 0) + p.ntLatch.toNat * 16 + p.v.toNat / 4096 := by
  rw [Ppu.bgPatternAddr, patternAddr_toNat _ _ (fineY p.v).isLt, fineY_toNat]

theorem patternAddr_lt (half : Bool) (tile : Byte) {row : Nat} (hr : row < 8) :
    (patternAddr half tile row).toNat < 0x2000 := by
  have := tile.isLt
  rw [patternAddr_toNat half tile hr]
  split <;> omega

/-- The high plane of a pattern row is eight bytes above the low plane (62_ppu.md R338, R347). -/
theorem toNat_add_eight {a : PpuAddr} (h : a.toNat < 0x2000) : (a + 8#14).toNat = a.toNat + 8 := by
  rw [BitVec.toNat_add, BitVec.toNat_ofNat]
  omega

/-- The action of every position at once: each latch at its own position, the reload and the X increment
at position 7 (62_ppu.md R335 to R340). -/
theorem bgAction_eq (env : PpuEnv) (pos : Nat) (p : Ppu) : p.bgAction env pos = { p with
    ntLatch := if pos = 0 then ppuByte env p (0x2000 + p.v.toNat % 4096) else p.ntLatch
    atLatch := if pos = 2 then
        (ppuByte env p (0x23C0 + p.v.toNat / 1024 % 4 * 1024 + p.v.toNat / 32 % 32 / 4 * 8 + p.v.toNat % 32 / 4) >>>
          (p.v.toNat / 32 % 32 / 2 % 2 * 4 + p.v.toNat % 32 / 2 % 2 * 2)).setWidth 2
      else p.atLatch
    patLoLatch := if pos = 4 then
        ppuByte env p ((if bitOf p.ctrl 4 then 0x1000 else 0) + p.ntLatch.toNat * 16 + p.v.toNat / 4096)
      else p.patLoLatch
    patHiLatch := if pos = 6 then
        ppuByte env p ((if bitOf p.ctrl 4 then 0x1000 else 0) + p.ntLatch.toNat * 16 + p.v.toNat / 4096 + 8)
      else p.patHiLatch
    bgPatLo := if pos = 7 then reloadLow p.bgPatLo p.patLoLatch else p.bgPatLo
    bgPatHi := if pos = 7 then reloadLow p.bgPatHi p.patHiLatch else p.bgPatHi
    bgAtLo := if pos = 7 then reloadLow p.bgAtLo (spread (bitOf p.atLatch 0)) else p.bgAtLo
    bgAtHi := if pos = 7 then reloadLow p.bgAtHi (spread (bitOf p.atLatch 1)) else p.bgAtHi
    v := if pos = 7 then incX p.v else p.v } := by
  match pos with
  | 0 => rw [Ppu.bgAction, ppuRead_eq_ppuByte, nametableAddr_toNat]; rfl
  | 2 => rw [Ppu.bgAction, ppuRead_eq_ppuByte, attributeAddr_toNat, attributeShift_eq]; rfl
  | 4 => rw [Ppu.bgAction, ppuRead_eq_ppuByte, bgPatternAddr_toNat]; rfl
  | 6 =>
    have hlt : p.bgPatternAddr.toNat < 0x2000 := patternAddr_lt _ _ (fineY p.v).isLt
    rw [Ppu.bgAction, ppuRead_eq_ppuByte, toNat_add_eight hlt, bgPatternAddr_toNat]
    rfl
  | 1 | 3 | 5 | 7 | n + 8 => rfl

/-- The background step does not look at what a pixel changes. -/
theorem bgPipelineStep_withPixel (env : PpuEnv) (d : Nat) (p : Ppu) (status : Byte) (framebuffer : Memory) :
    ({ p with status := status, framebuffer := framebuffer } : Ppu).bgPipelineStep env d =
      { p.bgPipelineStep env d with status := status, framebuffer := framebuffer } := by
  rw [Ppu.bgPipelineStep, Ppu.bgPipelineStep, bgAction_eq, bgAction_eq]
  rfl

/-- At a fetch dot rendering does the background step, and the Y increment at dot 256 (62_ppu.md R330). -/
theorem renderFetch_fetchDot (env : PpuEnv) (s : Int) {d : Nat} (p : Ppu)
    (hdot : (1 ≤ d ∧ d ≤ 256) ∨ (321 ≤ d ∧ d ≤ 336)) :
    p.renderFetch env s d = { p.bgPipelineStep env d with
      v := if d = 256 then incY (p.bgPipelineStep env d).v else (p.bgPipelineStep env d).v } := by
  rw [Ppu.renderFetch, if_pos hdot, if_neg (by omega : ¬ d = 257),
    if_neg (by omega : ¬ (s = -1 ∧ 280 ≤ d ∧ d ≤ 304))]
  split <;> rfl

/-- At a fetch dot of a render line with rendering enabled a tick does the background step. The pixel of a
visible dot and the clearing of the flags at (-1, 1), which come before it, change `status` and the
framebuffer only (62_ppu.md R330). -/
theorem dotActions_fetchDot (env : PpuEnv) {p : Ppu} (hr : p.renderingEnabled = true) (hline : p.scanline ≤ 239)
    (hdot : (1 ≤ p.dot ∧ p.dot ≤ 256) ∨ (321 ≤ p.dot ∧ p.dot ≤ 336)) :
    ∃ (status : Byte) (framebuffer : Memory), p.dotActions env =
      { p.bgPipelineStep env p.dot with
        status := status, framebuffer := framebuffer
        v := if p.dot = 256 then incY (p.bgPipelineStep env p.dot).v else (p.bgPipelineStep env p.dot).v } := by
  have hbefore : ∃ (status : Byte) (framebuffer : Memory),
      (if 0 ≤ p.scanline ∧ 1 ≤ p.dot ∧ p.dot ≤ 256 then
        (if p.scanline = -1 ∧ p.dot = 1 then p.clearFlags else p).outputPixel p.scanline.toNat (p.dot - 1)
      else (if p.scanline = -1 ∧ p.dot = 1 then p.clearFlags else p)) =
      { p with status := status, framebuffer := framebuffer } := by
    split <;> split <;> exact ⟨_, _, rfl⟩
  obtain ⟨status, framebuffer, hq⟩ := hbefore
  have hr' : (if p.scanline = -1 ∧ p.dot = 1 then p.clearFlags else p).renderingEnabled = true := by
    split <;> exact hr
  refine ⟨status, framebuffer, ?_⟩
  rw [dotActions_renderLine env hline, renderDot_ne_257 env _ _ (by omega), if_pos hr', hq,
    renderFetch_fetchDot env _ _ hdot, bgPipelineStep_withPixel]

/-- A reload gives the low byte and keeps the high one (62_ppu.md R339). -/
theorem bitOf_reloadLow (r : BitVec 16) (b : Byte) {j : Nat} (hj : j < 16) :
    bitOf (reloadLow r b) j = if j < 8 then bitOf b j else bitOf r j := by
  have hmask : ∀ j, j < 16 → BitVec.getLsbD 0xFF00#16 j = decide (8 ≤ j) := by decide
  rw [bitOf, reloadLow, BitVec.getLsbD_or, BitVec.getLsbD_and, BitVec.getLsbD_setWidth, hmask j hj]
  by_cases hlow : j < 8
  · simp [bitOf, hlow, hj, Nat.not_le.mpr hlow]
  · simp [bitOf, hlow, Nat.not_lt.mp hlow]

/-- A shift register after its dot: one step to the left, and at the eighth dot the low byte reloaded
(62_ppu.md R335, R339). -/
theorem bitOf_shiftThenReload (r : BitVec 16) (b : Byte) (pos : Nat) {j : Nat} (hj : j < 16) :
    bitOf (if pos = 7 then reloadLow (r <<< 1) b else r <<< 1) j =
      if pos = 7 ∧ j < 8 then bitOf b j else decide (1 ≤ j) && bitOf r (j - 1) := by
  have hshift : bitOf (r <<< 1) j = (decide (1 ≤ j) && bitOf r (j - 1)) := by
    rw [bitOf, BitVec.getLsbD_shiftLeft]
    simp [bitOf, hj, Nat.one_le_iff_ne_zero]
  by_cases hpos : pos = 7
  · simp only [hpos, if_true, true_and, bitOf_reloadLow _ b hj, hshift]
  · simp only [hpos, if_false, false_and, hshift]

theorem bitOf_spread (b : Bool) {j : Nat} (hj : j < 8) : bitOf (spread b) j = b := by
  have hall : ∀ b : Bool, ∀ j, j < 8 → bitOf (spread b) j = b := by decide
  exact hall b j hj

/-- Settles O50: the action of each position (`bgAction_eq`) after the shift, and the Y increment at dot 256
(`dotActions_fetchDot`). -/
theorem backgroundPipelineFetchesAndShifts : Obligations.BackgroundPipelineFetchesAndShifts := by
  intro env p hr _ hline hdot
  obtain ⟨status, framebuffer, hdotActions⟩ := dotActions_fetchDot env hr hline hdot
  have hq := tick_background env p
  rw [hdotActions, Ppu.bgPipelineStep, bgAction_eq] at hq
  refine ⟨hq.ntLatch, ?attr, hq.patLoLatch, hq.patHiLatch, fun j hj => ?patLo, fun j hj => ?patHi,
    fun j hj => ?atLo, fun j hj => ?atHi, hq.v⟩
  case attr =>
    refine (congrArg BitVec.toNat hq.atLatch).trans ((apply_ite BitVec.toNat _ _ _).trans ?_)
    refine ite_congr rfl (fun _ => ?_) fun _ => rfl
    rw [BitVec.toNat_setWidth, BitVec.toNat_ushiftRight, Nat.shiftRight_eq_div_pow]
    rfl
  case patLo => exact (congrArg (bitOf · j) hq.bgPatLo).trans (bitOf_shiftThenReload _ _ _ hj)
  case patHi => exact (congrArg (bitOf · j) hq.bgPatHi).trans (bitOf_shiftThenReload _ _ _ hj)
  case atLo =>
    refine (congrArg (bitOf · j) hq.bgAtLo).trans ((bitOf_shiftThenReload _ _ _ hj).trans ?_)
    exact ite_congr rfl (fun h => bitOf_spread _ h.2) fun _ => rfl
  case atHi =>
    refine (congrArg (bitOf · j) hq.bgAtHi).trans ((bitOf_shiftThenReload _ _ _ hj).trans ?_)
    exact ite_congr rfl (fun h => bitOf_spread _ h.2) fun _ => rfl

/-! ### What a tick leaves alone -/

/-- On a render line the clearing of the flags, where it happens, changes `status` only, before the work of
the dot (62_ppu.md R330). -/
theorem dotActions_withStatus (env : PpuEnv) {p : Ppu} (hline : p.scanline ≤ 239) :
    ∃ status : Byte,
      p.dotActions env = ({ p with status := status } : Ppu).renderDot env p.scanline p.dot := by
  rw [dotActions_renderLine env hline]
  split
  · exact ⟨p.clearFlags.status, rfl⟩
  · exact ⟨p.status, rfl⟩

/-- From scanline 240 on the actions of a dot change `status` and the request at most (62_ppu.md R355). -/
theorem dotActions_withVBlank (env : PpuEnv) {p : Ppu} (hline : 240 ≤ p.scanline) :
    ∃ (status : Byte) (pending : Bool),
      p.dotActions env = { p with status := status, nmiPending := pending } := by
  rw [dotActions_idleLine env hline]
  split
  · exact ⟨p.startVBlank.status, p.startVBlank.nmiPending, rfl⟩
  · exact ⟨p.status, p.nmiPending, rfl⟩

/-- With rendering off, from scanline 240 on and outside the fetch dots a tick leaves the latches and the
shift registers alone (62_ppu.md R334, R355). -/
theorem tick_noFetch (env : PpuEnv) (p : Ppu)
    (h : (p.renderingEnabled = false ∨ 240 ≤ p.scanline) ∨
      ¬ ((1 ≤ p.dot ∧ p.dot ≤ 256) ∨ (321 ≤ p.dot ∧ p.dot ≤ 336))) :
    let q := p.tick env
    SameBackground { p with v := q.v, framebuffer := q.framebuffer, nmiPending := q.nmiPending } q := by
  have ht := tick_background env p
  by_cases hline : p.scanline ≤ 239
  · obtain ⟨status, hd⟩ := dotActions_withStatus env hline
    obtain ⟨hstill, -⟩ := renderDot_noFetch env p.scanline { p with status := status }
      (h.imp_left fun h => h.resolve_right (by omega))
    rw [hd] at ht
    exact { hstill.trans ht with v := rfl, framebuffer := rfl, nmiPending := rfl }
  · obtain ⟨status, pending, hd⟩ := dotActions_withVBlank env (by omega : 240 ≤ p.scanline)
    rw [hd] at ht
    exact { ht with v := rfl, framebuffer := rfl, nmiPending := rfl }

/-- With rendering off, from scanline 240 on and away from the dots that move `v`, a tick leaves `v` alone
(62_ppu.md R334, R355). -/
theorem tick_v_stays (env : PpuEnv) (p : Ppu)
    (h : (p.renderingEnabled = false ∨ 240 ≤ p.scanline) ∨
      ¬ ((1 ≤ p.dot ∧ p.dot ≤ 257) ∨ (321 ≤ p.dot ∧ p.dot ≤ 336)) ∧
        ¬ (p.scanline = -1 ∧ 280 ≤ p.dot ∧ p.dot ≤ 304)) : (p.tick env).v = p.v := by
  rw [(tick_background env p).v]
  by_cases hline : p.scanline ≤ 239
  · obtain ⟨status, hd⟩ := dotActions_withStatus env hline
    rw [hd]
    have h' := h.imp_left fun h => h.resolve_right (by omega)
    exact (renderDot_noFetch env p.scanline { p with status := status }
      (h'.imp_right fun h => by omega)).2 (h'.imp_right fun h => by omega)
  · obtain ⟨status, pending, hd⟩ := dotActions_withVBlank env (by omega : 240 ≤ p.scanline)
    rw [hd]

/-- From scanline 240 on and away from dot 257 a tick leaves the sprites alone (62_ppu.md R330). -/
theorem tick_sprites_stay (env : PpuEnv) (p : Ppu) (h : 240 ≤ p.scanline ∨ p.dot ≠ 257) :
    let q := p.tick env
    q.spriteCount = p.spriteCount ∧ q.spriteZeroSelected = p.spriteZeroSelected ∧
    q.secondaryOam = p.secondaryOam ∧ q.sprites = p.sprites := by
  have ht := tick_sprites env p
  simp only [ht.spriteCount, ht.spriteZeroSelected, ht.secondaryOam, ht.sprites]
  by_cases hline : p.scanline ≤ 239
  · obtain ⟨status, hd⟩ := dotActions_withStatus env hline
    rw [hd]
    exact renderDot_sprites env p.scanline { p with status := status } (h.resolve_left (by omega))
  · obtain ⟨status, pending, hd⟩ := dotActions_withVBlank env (by omega : 240 ≤ p.scanline)
    rw [hd]
    exact ⟨rfl, rfl, rfl, rfl⟩

/-- Dot 257 of a render line where no sprite evaluation is due: `v` is copied with rendering enabled, and the
selection is cleared (62_ppu.md R330, R348). -/
theorem dotActions_noEvaluation (env : PpuEnv) {p : Ppu} (hline : p.scanline ≤ 239) (hdot : p.dot = 257)
    (h : ¬ (p.renderingEnabled = true ∧ 0 ≤ p.scanline)) :
    p.dotActions env =
      { p with
        v := if p.renderingEnabled then copyHorizontal p.v p.t else p.v
        spriteCount := 0, spriteZeroSelected := false } := by
  rw [dotActions_dot257 env hline hdot, renderDot_257]
  cases hr : p.renderingEnabled
  · rw [if_neg (by decide), if_neg (by decide), spriteDot_clear env (by simp [hr])]
    rfl
  · rw [if_pos rfl, if_pos rfl]
    exact spriteDot_clear env (mt (And.imp_left fun _ => hr) h)

/-- Where no sprite evaluation is due, dot 257 of a render line clears the selection and leaves `status`, the
secondary OAM and the sprite units alone (62_ppu.md R348). -/
theorem tick_noEvaluation (env : PpuEnv) {p : Ppu} (hline : p.scanline ≤ 239) (hdot : p.dot = 257)
    (h : ¬ (p.renderingEnabled = true ∧ 0 ≤ p.scanline)) :
    SameSprites { p with spriteCount := 0, spriteZeroSelected := false } (p.tick env) := by
  have ht := tick_sprites env p
  rw [dotActions_noEvaluation env hline hdot h] at ht
  exact { ht with }

/-- Outside the visible dots a tick leaves the framebuffer alone (62_ppu.md R330). -/
theorem tick_framebuffer_stays (env : PpuEnv) (p : Ppu)
    (h : ¬ ((0 ≤ p.scanline ∧ p.scanline ≤ 239) ∧ 1 ≤ p.dot ∧ p.dot ≤ 256)) :
    (p.tick env).framebuffer = p.framebuffer := by
  rw [(tick_background env p).framebuffer]
  by_cases hline : p.scanline ≤ 239
  · obtain ⟨status, hd⟩ := dotActions_withStatus env hline
    rw [hd]
    exact (renderDot_noPixel env p.scanline { p with status := status } (by omega)).1
  · obtain ⟨status, pending, hd⟩ := dotActions_withVBlank env (by omega : 240 ≤ p.scanline)
    rw [hd]

/-- The positions at which a tick can change `status` (62_ppu.md R330). -/
theorem tick_status_stays (env : PpuEnv) (p : Ppu) (hstart : ¬ (p.scanline = 241 ∧ p.dot = 1))
    (hpre : ¬ (p.scanline = -1 ∧ p.dot = 1))
    (hpixel : ¬ ((0 ≤ p.scanline ∧ p.scanline ≤ 239) ∧ 1 ≤ p.dot ∧ p.dot ≤ 256))
    (heval : ¬ ((0 ≤ p.scanline ∧ p.scanline ≤ 239) ∧ p.dot = 257 ∧ p.renderingEnabled = true)) :
    (p.tick env).status = p.status := by
  by_cases hline : p.scanline ≤ 239
  · by_cases hdot : p.dot = 257
    · exact (tick_noEvaluation env hline hdot fun h => heval ⟨⟨h.2, hline⟩, hdot, h.1⟩).status
    · rw [(tick_sprites env p).status, dotActions_renderDot env hline hpre]
      exact (renderDot_noPixel env p.scanline p (by omega)).2 hdot
  · rw [(tick_sprites env p).status, dotActions_idleLine env (by omega), if_neg hstart]

/-- Settles O51: for each part of the PPU, the positions outside which no action of a tick touches it. -/
theorem idleTicksLeaveThePipelineAlone : Obligations.IdleTicksLeaveThePipelineAlone := by
  intro env p
  refine ⟨fun h => ?latches, fun h => ?v, fun h => ?units, fun h => ?selection,
    tick_framebuffer_stays env p, fun h => ?request, tick_status_stays env p⟩
  case latches =>
    have hq := tick_noFetch env p (h.imp_right fun h => by omega)
    exact ⟨hq.ntLatch, hq.atLatch, hq.patLoLatch, hq.patHiLatch, hq.bgPatLo, hq.bgPatHi, hq.bgAtLo, hq.bgAtHi⟩
  case v => exact tick_v_stays env p (h.imp_right fun h => by omega)
  case units =>
    by_cases hevent : p.scanline ≤ 239 ∧ p.dot = 257
    · obtain ⟨hline, hdot⟩ := hevent
      have hoff : p.renderingEnabled = false :=
        (h.resolve_right fun h => h hdot).resolve_right (by omega)
      have hq := tick_noEvaluation env hline hdot (by simp [hoff])
      exact ⟨hq.secondaryOam, hq.sprites⟩
    · obtain ⟨-, -, hoam, hsprites⟩ := tick_sprites_stay env p (by omega)
      exact ⟨hoam, hsprites⟩
  case selection =>
    obtain ⟨hcount, hzero, -, -⟩ := tick_sprites_stay env p h
    exact ⟨hcount, hzero⟩
  case request => rw [tick_nmiPending, ← Bool.decide_and, decide_eq_false h, Bool.false_and, Bool.or_false]

/-! ### Sprite evaluation -/

/-- A copied entry fills its four cells of secondary OAM and leaves the others alone (62_ppu.md R345). -/
theorem read_copyEntry {secondary : Memory} (hwf : secondary.wf = true) (oam : Memory) (k n i : Nat) :
    (copyEntry oam secondary k n).wf = true ∧
    (copyEntry oam secondary k n).read i =
      if 4 * n ≤ i ∧ i < 4 * n + 4 then oam.read (4 * k + (i - 4 * n)) else secondary.read i := by
  have h0 := Memory.wf_write hwf (4 * n) (oam.read (4 * k))
  have h1 := Memory.wf_write h0 (4 * n + 1) (oam.read (4 * k + 1))
  have h2 := Memory.wf_write h1 (4 * n + 2) (oam.read (4 * k + 2))
  refine ⟨Memory.wf_write h2 _ _, ?_⟩
  rw [copyEntry, Memory.read_write h2, Memory.read_write h1, Memory.read_write h0, Memory.read_write hwf]
  by_cases hin : 4 * n ≤ i ∧ i < 4 * n + 4
  · rw [if_pos hin]
    obtain hi | hi | hi | hi : i = 4 * n ∨ i = 4 * n + 1 ∨ i = 4 * n + 2 ∨ i = 4 * n + 3 := by omega
    all_goals subst hi; simp
  · rw [if_neg hin, if_neg (by omega), if_neg (by omega), if_neg (by omega), if_neg (by omega)]

/-- `q` is `p` in the course of sprite evaluation, with the entries `hits` found so far: the first eight are
in secondary OAM, the rest of which is FF, and a ninth has set the overflow flag (62_ppu.md R345, R346). -/
structure Selects (p : Ppu) (hits : List Nat) (q : Ppu) : Prop where
  registers : SameRegisters p q
  sprites : q.sprites = p.sprites
  spriteCount : q.spriteCount = min 8 hits.length
  spriteZero : q.spriteZeroSelected = decide (0 ∈ hits)
  status : q.status = if 8 < hits.length then p.status ||| 0x20#8 else p.status
  canonical : q.secondaryOam.wf = true
  copied : ∀ n j, n < q.spriteCount → j < 4 →
    q.secondaryOam.read (4 * n + j) = p.oam.read (4 * hits.getD n 0 + j)
  rest : ∀ i, 4 * q.spriteCount ≤ i → i < 32 → q.secondaryOam.read i = 0xFF#8

/-- The PPU at the start of the scan (62_ppu.md R345). -/
def evaluationStart (p : Ppu) : Ppu := ({ p with secondaryOam := secondaryOamCleared } : Ppu).clearSelection

theorem selects_evaluationStart (p : Ppu) : Selects p [] (evaluationStart p) where
  registers := ⟨rfl, rfl, rfl, rfl, rfl, rfl, rfl, rfl, rfl, rfl, rfl, rfl, rfl⟩
  sprites := rfl
  spriteCount := rfl
  spriteZero := rfl
  status := rfl
  canonical := Memory.wf_ofBytes _
  copied := fun n _ hn => absurd hn (Nat.not_lt_zero n)
  rest := fun i _ hi => by
    show (Memory.ofBytes (List.replicate 32 0xFF#8)).read i = 0xFF#8
    rw [Memory.read_ofBytes, List.getD_eq_getElem?_getD, List.getElem?_replicate, if_pos hi, Option.getD_some]

theorem entryMatches_congr {p q : Ppu} (h : SameRegisters p q) (s k : Nat) :
    q.entryMatches s k = p.entryMatches s k := by
  rw [Ppu.entryMatches, Ppu.entryMatches, Ppu.spriteHeight, Ppu.spriteHeight, h.oam, h.ctrl]

/-- A new hit leaves the earlier ones where they are. -/
theorem getD_concat_of_lt {hits : List Nat} {k n : Nat} (hn : n < hits.length) :
    (hits ++ [k]).getD n 0 = hits.getD n 0 := by
  rw [List.getD_eq_getElem?_getD, List.getElem?_append_left hn, List.getD_eq_getElem?_getD]

/-- One of the first eight matches is copied (62_ppu.md R345). -/
theorem Selects.hit {p q : Ppu} {hits : List Nat} (h : Selects p hits q) (hroom : hits.length < 8) (k : Nat) :
    Selects p (hits ++ [k]) { q with
      secondaryOam := copyEntry q.oam q.secondaryOam k q.spriteCount
      spriteZeroSelected := q.spriteZeroSelected || decide (k = 0)
      spriteCount := q.spriteCount + 1 } := by
  have hcount : q.spriteCount = hits.length := h.spriteCount.trans (Nat.min_eq_right (Nat.le_of_lt hroom))
  have hread := fun i => (read_copyEntry h.canonical q.oam k q.spriteCount i).2
  refine ⟨h.registers.trans ⟨rfl, rfl, rfl, rfl, rfl, rfl, rfl, rfl, rfl, rfl, rfl, rfl, rfl⟩, h.sprites,
    ?count, ?zero, ?status, (read_copyEntry h.canonical q.oam k q.spriteCount 0).1, fun n j hn hj => ?copied,
    fun i hlow hi => ?rest⟩
  case count =>
    simp only [List.length_append, List.length_singleton, hcount]
    omega
  case zero => simp [h.spriteZero, eq_comm]
  case status =>
    rw [List.length_append, List.length_singleton, if_neg (by omega)]
    exact h.status.trans (if_neg (by omega))
  case copied =>
    refine (hread _).trans ?_
    by_cases hlast : n = q.spriteCount
    · have hget : (hits ++ [k]).getD n 0 = k := by
        rw [hlast, hcount, List.getD_eq_getElem?_getD, List.getElem?_concat_length, Option.getD_some]
      rw [if_pos (by omega), hget, h.registers.oam, hlast, Nat.add_sub_cancel_left]
    · have hn' : n < q.spriteCount := by
        have : n < q.spriteCount + 1 := hn
        omega
      rw [if_neg (by omega), getD_concat_of_lt (by omega)]
      exact h.copied n j hn' hj
  case rest =>
    have hlow' : 4 * (q.spriteCount + 1) ≤ i := hlow
    exact (hread i).trans ((if_neg (by omega)).trans (h.rest i (by omega) hi))

/-- A match after the eighth sets the overflow flag and is not copied (62_ppu.md R346). Entry 0 cannot be
one: `k` entries were scanned before it. -/
theorem Selects.overflow {p q : Ppu} {hits : List Nat} (h : Selects p hits q) (hfull : 8 ≤ hits.length)
    {k : Nat} (hk : hits.length ≤ k) : Selects p (hits ++ [k]) { q with status := q.status ||| 0x20#8 } := by
  have hcount : q.spriteCount = 8 := h.spriteCount.trans (Nat.min_eq_left hfull)
  refine ⟨h.registers.trans ⟨rfl, rfl, rfl, rfl, rfl, rfl, rfl, rfl, rfl, rfl, rfl, rfl, rfl⟩, h.sprites,
    ?count, ?zero, ?status, h.canonical, fun n j hn hj => ?copied, h.rest⟩
  case count =>
    simp only [List.length_append, List.length_singleton, hcount]
    omega
  case zero =>
    have hk0 : 0 ≠ k := by omega
    simp [h.spriteZero, hk0]
  case status =>
    rw [List.length_append, List.length_singleton, if_pos (by omega)]
    show q.status ||| 0x20#8 = p.status ||| 0x20#8
    rw [h.status]
    split
    · rw [BitVec.or_assoc, BitVec.or_self]
    · rfl
  case copied =>
    have hn' : n < q.spriteCount := hn
    rw [getD_concat_of_lt (by omega)]
    exact h.copied n j hn hj

/-- One entry of the scan (62_ppu.md R345, R346). -/
theorem Selects.evaluateEntry {p q : Ppu} {hits : List Nat} (h : Selects p hits q) (s : Nat) {k : Nat}
    (hk : hits.length ≤ k) :
    Selects p (if p.entryMatches s k then hits ++ [k] else hits) (q.evaluateEntry s k) := by
  rw [Ppu.evaluateEntry, entryMatches_congr h.registers]
  by_cases hm : p.entryMatches s k = true
  · rw [if_pos hm, if_pos hm]
    by_cases hroom : hits.length < 8
    · rw [if_pos (by rw [h.spriteCount]; omega)]
      exact h.hit hroom k
    · rw [if_neg (by rw [h.spriteCount]; omega)]
      exact h.overflow (by omega) hk
  · rw [if_neg hm, if_neg hm]
    exact h

/-- The entries among the first `k` that scanline `s` shows, in OAM order (62_ppu.md R345). -/
def spriteHits (p : Ppu) (s k : Nat) : List Nat := (List.range k).filter (p.entryMatches s)

theorem spriteHits_succ (p : Ppu) (s k : Nat) : spriteHits p s (k + 1) =
    if p.entryMatches s k then spriteHits p s k ++ [k] else spriteHits p s k := by
  rw [spriteHits, spriteHits, List.range_succ, List.filter_append]
  cases hm : p.entryMatches s k
  · rw [List.filter_cons_of_neg (by rw [hm]; decide), List.filter_nil, List.append_nil, if_neg (by decide)]
  · rw [List.filter_cons_of_pos hm, List.filter_nil, if_pos rfl]

theorem spriteHits_length_le (p : Ppu) (s k : Nat) : (spriteHits p s k).length ≤ k :=
  Nat.le_trans (List.length_filter_le _ _) (Nat.le_of_eq List.length_range)

/-- The scan, by induction on the entries passed (62_ppu.md R345). -/
theorem selects_scanEntries (p : Ppu) (s k : Nat) :
    Selects p (spriteHits p s k) ((evaluationStart p).scanEntries s k) := by
  induction k with
  | zero => exact selects_evaluationStart p
  | succ k ih =>
    rw [spriteHits_succ]
    exact ih.evaluateEntry s (spriteHits_length_le p s k)

/-- The PPU after the scan of all 64 entries (62_ppu.md R345). -/
def scanned (s : Nat) (p : Ppu) : Ppu := (evaluationStart p).scanEntries s 64

/-- The evaluation is the scan and then the fetches of the selected sprites (62_ppu.md R345). -/
theorem evaluateSprites_eq_fetchSprites (env : PpuEnv) (s : Nat) (p : Ppu) :
    p.evaluateSprites env s = (scanned s p).fetchSprites env s (scanned s p).spriteCount := rfl

/-- The fetches change the sprite units only, so the rest is as the scan left it (62_ppu.md R347). -/
theorem evaluateSprites_eq (env : PpuEnv) (s : Nat) (p : Ppu) :
    p.evaluateSprites env s = { scanned s p with sprites := (p.evaluateSprites env s).sprites } := by
  rw [evaluateSprites_eq_fetchSprites]
  exact fetchSprites_eq env s _ _

theorem selects_scanned (s : Nat) (p : Ppu) : Selects p (spriteHits p s 64) (scanned s p) :=
  selects_scanEntries p s 64

/-- Where sprites are evaluated, a tick leaves them as the evaluation of the PPU before it does
(62_ppu.md R345). -/
theorem tick_evaluates (env : PpuEnv) {p : Ppu} (hr : p.renderingEnabled = true) (hlow : 0 ≤ p.scanline)
    (hline : p.scanline ≤ 239) (hdot : p.dot = 257) :
    SameSprites (p.evaluateSprites env p.scanline.toNat) (p.tick env) := by
  have ht := tick_sprites env p
  rw [dotActions_dot257 env hline hdot, renderDot_evaluates env hr hlow] at ht
  generalize p.evaluateSprites env p.scanline.toNat = r at ht ⊢
  exact { ht with }

/-- Settles O52: the scan keeps `Selects` entry by entry, and the fetches after it touch the units only; where
no evaluation is due the selection is cleared (`tick_noEvaluation`). -/
theorem spriteEvaluationSelectsTheFirstEight : Obligations.SpriteEvaluationSelectsTheFirstEight := by
  intro env p hdot _ hline
  refine ⟨fun hr hlow => ?evaluated, fun hoff => ?cleared⟩
  case evaluated =>
    have hq := tick_evaluates env hr hlow hline hdot
    have hunits := hq.sprites
    have hs := selects_scanned p.scanline.toNat p
    rw [evaluateSprites_eq] at hq
    generalize scanned p.scanline.toNat p = r at hq hs
    have hcount := hq.spriteCount
    refine ⟨hcount.trans hs.spriteCount, hq.spriteZeroSelected.trans hs.spriteZero, hq.status.trans hs.status,
      fun n j hn hj => ?_, fun k hk hk' => ?_, hunits⟩
    · rw [hq.secondaryOam]
      exact hs.copied n j (hcount ▸ hn) hj
    · rw [hq.secondaryOam]
      exact hs.rest k (hcount ▸ hk) hk'
  case cleared =>
    have hq := tick_noEvaluation env hline hdot (by
      rintro ⟨hr, hlow⟩
      rcases hoff with hoff | hoff
      · rw [hr] at hoff
        cases hoff
      · omega)
    exact ⟨hq.spriteCount, hq.spriteZeroSelected, hq.secondaryOam, hq.sprites⟩

/-! ### Sprite fetches -/

/-- The unit a fetch loads: what `fetchSprite` puts in unit `i` (62_ppu.md R347). -/
def fetchedUnit (env : PpuEnv) (s i : Nat) (p : Ppu) : SpriteUnit :=
  let y := (p.secondaryOam.read (4 * i)).toNat
  let tile := p.secondaryOam.read (4 * i + 1)
  let attr := p.secondaryOam.read (4 * i + 2)
  let addr := spriteAddr p.spriteHeight (bitOf p.ctrl 3) tile (spriteRow p.spriteHeight s y attr)
  { patLo := flipRow attr (ppuRead env p addr), patHi := flipRow attr (ppuRead env p (addr + 8#14)),
    attr := attr, x := p.secondaryOam.read (4 * i + 3) }

theorem fetchSprite_eq (env : PpuEnv) (s i : Nat) (p : Ppu) :
    p.fetchSprite env s i = { p with sprites := p.sprites.setIfInBounds i (fetchedUnit env s i p) } := rfl

/-- After `k` fetches the first `k` units are loaded and the others keep what they held (62_ppu.md R347). -/
theorem getElem?_fetchSprites (env : PpuEnv) (s k : Nat) (p : Ppu) {n : Nat} (hn : n < 8) :
    (p.fetchSprites env s k).sprites[n]? = if n < k then some (fetchedUnit env s n p) else p.sprites[n]? := by
  induction k with
  | zero => rfl
  | succ k ih =>
    have hunit : fetchedUnit env s k (p.fetchSprites env s k) = fetchedUnit env s k p := by
      rw [fetchSprites_eq]
      rfl
    rw [Ppu.fetchSprites, fetchSprite_eq, hunit, Vector.getElem?_setIfInBounds, ih]
    by_cases hnk : k = n
    · rw [if_pos hnk, if_pos (by omega), if_pos (by omega), hnk]
    · rw [if_neg hnk]
      exact ite_congr (propext (by omega)) (fun _ => rfl) fun _ => rfl

theorem lt_eight {j : Nat} (h : j < 8) :
    j = 0 ∨ j = 1 ∨ j = 2 ∨ j = 3 ∨ j = 4 ∨ j = 5 ∨ j = 6 ∨ j = 7 := by
  omega

/-- `reverse_bits_8` bit by bit (62_ppu.md R347). -/
theorem bitOf_reverseBits8 (b : Byte) {j : Nat} (hj : j < 8) : bitOf (reverseBits8 b) j = bitOf b (7 - j) := by
  simp only [bitOf, reverseBits8, BitVec.getLsbD_append]
  rcases lt_eight hj with rfl | rfl | rfl | rfl | rfl | rfl | rfl | rfl <;> simp

/-- A fetched row, mirrored when the horizontal flip is set (62_ppu.md R347). -/
theorem bitOf_flipRow (attr b : Byte) {j : Nat} (hj : j < 8) :
    bitOf (flipRow attr b) j = bitOf b (if bitOf attr 6 then 7 - j else j) := by
  rw [flipRow]
  split
  · exact bitOf_reverseBits8 b hj
  · rfl

/-- The row is one of the sprite's rows (62_ppu.md R345, R347). -/
theorem spriteRow_lt {height s y : Nat} (attr : Byte) (hlow : y ≤ s) (hhigh : s < y + height) :
    spriteRow height s y attr < height := by
  rw [spriteRow]
  split <;> omega

/-- The upper tile of an 8×16 sprite is the even one of its pair (62_ppu.md R347). -/
theorem toNat_and_0xFE (tile : Byte) : (tile &&& 0xFE#8).toNat = tile.toNat / 2 * 2 := by
  have e : tile &&& 0xFE#8 = tile.extractLsb' 1 7 ++ 0#1 := by
    apply BitVec.eq_of_getLsbD_eq
    intro i hi
    simp only [BitVec.getLsbD_and, BitVec.getLsbD_append, BitVec.getLsbD_extractLsb']
    rcases lt_eight hi with rfl | rfl | rfl | rfl | rfl | rfl | rfl | rfl <;> simp
  rw [e, toNat_append_eq, BitVec.extractLsb'_toNat, Nat.shiftRight_eq_div_pow]
  have := tile.isLt
  simp
  omega

theorem toNat_and_0xFE_add_one (tile : Byte) :
    ((tile &&& 0xFE#8) + 1#8).toNat = tile.toNat / 2 * 2 + 1 := by
  have := tile.isLt
  rw [BitVec.toNat_add, toNat_and_0xFE, BitVec.toNat_ofNat]
  omega

/-- The pattern half of an 8×16 sprite is bit 0 of its tile (62_ppu.md R347). -/
theorem half_of_tile (tile : Byte) : (if bitOf tile 0 then 0x1000 else 0) = tile.toNat % 2 * 0x1000 := by
  have h0 : bitOf tile 0 = decide (tile.toNat % 2 = 1) := Nat.testBit_zero _
  rw [h0]
  rcases Nat.mod_two_eq_zero_or_one tile.toNat with h | h <;> rw [h] <;> rfl

/-- The low-plane address of a sprite row as a number, for both sizes (62_ppu.md R347). -/
theorem spriteAddr_toNat (p : Ppu) (half : Bool) (tile : Byte) {row : Nat} (hrow : row < p.spriteHeight) :
    (spriteAddr p.spriteHeight half tile row).toNat =
      (if bitOf p.ctrl 5 then tile.toNat % 2 * 0x1000 + (tile.toNat / 2 * 2 + row / 8) * 16 + row % 8
      else (if half then 0x1000 else 0) + tile.toNat * 16 + row) ∧
    (spriteAddr p.spriteHeight half tile row).toNat < 0x2000 := by
  cases hsize : bitOf p.ctrl 5
  · have h8 : p.spriteHeight = 8 := by rw [Ppu.spriteHeight, hsize]; rfl
    rw [h8] at hrow ⊢
    rw [spriteAddr, if_pos rfl]
    exact ⟨patternAddr_toNat half tile hrow, patternAddr_lt half tile hrow⟩
  · have h16 : p.spriteHeight = 16 := by rw [Ppu.spriteHeight, hsize]; rfl
    rw [h16] at hrow ⊢
    rw [spriteAddr, if_neg (by decide), if_pos rfl]
    split
    · have hrow' : row - 8 < 8 := by omega
      refine ⟨?_, patternAddr_lt _ _ hrow'⟩
      rw [patternAddr_toNat _ _ hrow', half_of_tile, toNat_and_0xFE_add_one]
      omega
    · have hrow' : row < 8 := by omega
      refine ⟨?_, patternAddr_lt _ _ hrow'⟩
      rw [patternAddr_toNat _ _ hrow', half_of_tile, toNat_and_0xFE]
      omega

/-- A selected sprite is shown by the scanline (62_ppu.md R345). -/
theorem Selects.shown {p q : Ppu} {s n : Nat} (h : Selects p (spriteHits p s 64) q) (hn : n < q.spriteCount) :
    (q.secondaryOam.read (4 * n)).toNat ≤ s ∧ s < (q.secondaryOam.read (4 * n)).toNat + p.spriteHeight := by
  have hlt : n < (spriteHits p s 64).length := by
    have := h.spriteCount
    omega
  have hmem : (spriteHits p s 64).getD n 0 ∈ spriteHits p s 64 := by
    rw [List.getD_eq_getElem?_getD, List.getElem?_eq_getElem hlt, Option.getD_some]
    exact List.getElem_mem hlt
  have hm : p.entryMatches s ((spriteHits p s 64).getD n 0) = true := (List.mem_filter.mp hmem).2
  have hy := h.copied n 0 hn (by decide)
  rw [Nat.add_zero, Nat.add_zero] at hy
  rw [hy]
  simpa only [Ppu.entryMatches, Bool.and_eq_true, decide_eq_true_eq] using hm

/-- What a fetch looks at is not changed by the scan. -/
theorem fetchedUnit_congr {p q : Ppu} (h : SameRegisters p q) (env : PpuEnv) (s i : Nat) :
    fetchedUnit env s i q = fetchedUnit env s i { p with secondaryOam := q.secondaryOam } := by
  have hheight : q.spriteHeight = p.spriteHeight := by rw [Ppu.spriteHeight, Ppu.spriteHeight, h.ctrl]
  have hread : ppuRead env q = ppuRead env p :=
    funext fun _ => ppuRead_congr rfl (fun _ => rfl) (fun _ _ => h.vram) fun _ => h.palette
  rw [fetchedUnit, hheight, hread, h.ctrl]
  rfl

/-- A plane of a fetched unit: the row at its address, mirrored by the horizontal flip (62_ppu.md R347). -/
theorem bitOf_flippedRead (env : PpuEnv) (p : Ppu) (attr : Byte) {a : PpuAddr} {k : Nat} (ha : a.toNat = k)
    {j : Nat} (hj : j < 8) : bitOf (flipRow attr (ppuRead env p a)) j =
      bitOf (ppuByte env p k) (if bitOf attr 6 then 7 - j else j) := by
  rw [bitOf_flipRow _ _ hj, ppuRead_eq_ppuByte, ha]

/-- Settles O53: each selected unit is `fetchedUnit`, whose row lies in the sprite because its entry matched
the scanline (`Selects.shown`). -/
theorem spriteFetchReadsTheSelectedRows : Obligations.SpriteFetchReadsTheSelectedRows := by
  intro env p s n _ hn
  have hs := selects_scanned s p
  have hunits := getElem?_fetchSprites env s (scanned s p).spriteCount (scanned s p) hn
  rw [evaluateSprites_eq_fetchSprites, fetchSprites_eq]
  generalize scanned s p = r at hs hunits ⊢
  refine ⟨fun hlt => ?selected, fun hle => ?kept⟩
  case selected =>
    obtain ⟨hlow, hhigh⟩ := hs.shown hlt
    have hrow := spriteRow_lt (r.secondaryOam.read (4 * n + 2)) hlow hhigh
    obtain ⟨haddr, hbelow⟩ := spriteAddr_toNat p (bitOf p.ctrl 3) (r.secondaryOam.read (4 * n + 1)) hrow
    have hhighPlane := (toNat_add_eight hbelow).trans (congrArg (· + 8) haddr)
    refine ⟨fetchedUnit env s n r, hunits.trans (if_pos hlt), rfl, rfl, ?_⟩
    rw [fetchedUnit_congr hs.registers]
    exact ⟨fun j hj => bitOf_flippedRead env _ _ haddr hj, fun j hj => bitOf_flippedRead env _ _ hhighPlane hj⟩
  case kept =>
    exact (hunits.trans (if_neg (Nat.not_lt.mpr hle))).trans (congrArg (·[n]?) hs.sprites)

/-! ### The pixels of a column -/

theorem twoBits_toNat (hi lo : Bool) : (twoBits hi lo).toNat = 2 * hi.toNat + lo.toNat := by
  cases hi <;> cases lo <;> rfl

/-- The value of a sprite unit at a column as a number (62_ppu.md R351). -/
theorem valueAt_toNat (u : SpriteUnit) (x : Nat) : (u.valueAt x).toNat =
    if u.x.toNat ≤ x ∧ x ≤ u.x.toNat + 7 then
      2 * (bitOf u.patHi (7 - (x - u.x.toNat))).toNat + (bitOf u.patLo (7 - (x - u.x.toNat))).toNat
    else 0 := by
  rw [SpriteUnit.valueAt, apply_ite BitVec.toNat, twoBits_toNat]
  exact ite_congr (propext (by omega)) (fun _ => rfl) fun _ => rfl

theorem valueAt_toNat_eq_zero_iff (u : SpriteUnit) (x : Nat) : (u.valueAt x).toNat = 0 ↔ u.valueAt x = 0#2 :=
  BitVec.toNat_inj (y := 0#2)

/-- There is no sprite pixel exactly where every unit is transparent (62_ppu.md R351). -/
theorem firstOpaque_eq_none_iff (zeroSelected : Bool) (x i : Nat) (us : List SpriteUnit) :
    firstOpaque zeroSelected x i us = none ↔ ∀ (n : Nat) (u : SpriteUnit), us[n]? = some u → u.valueAt x = 0#2 := by
  induction us generalizing i with
  | nil => simp [firstOpaque]
  | cons u us ih =>
    rw [firstOpaque]
    split
    next hopaque =>
      exact iff_of_false (Option.some_ne_none _) fun h => hopaque (h 0 u rfl)
    next htransparent =>
      rw [ih]
      refine ⟨fun h n w hw => ?_, fun h n w hw => h (n + 1) w hw⟩
      cases n with
      | zero =>
        obtain rfl : u = w := Option.some.inj hw
        exact Classical.not_not.mp htransparent
      | succ n => exact h n w hw

/-- The sprite pixel comes from the first opaque unit (62_ppu.md R351). -/
theorem firstOpaque_eq_some {zeroSelected : Bool} {x i : Nat} {us : List SpriteUnit} {c : SpritePixel}
    (h : firstOpaque zeroSelected x i us = some c) :
    ∃ n u, us[n]? = some u ∧ u.valueAt x ≠ 0#2 ∧ (∀ k w, k < n → us[k]? = some w → w.valueAt x = 0#2) ∧
      c = { pixel := { px := u.valueAt x, pal := u.attr.setWidth 2 }, behind := bitOf u.attr 5,
            isZero := decide (i + n = 0) && zeroSelected } := by
  induction us generalizing i with
  | nil => cases h
  | cons u us ih =>
    rw [firstOpaque] at h
    split at h
    next hopaque =>
      exact ⟨0, u, rfl, hopaque, fun k w hk => absurd hk (Nat.not_lt_zero k), (Option.some.inj h).symm⟩
    next htransparent =>
      obtain ⟨n, w, hw, hopaque, hbefore, rfl⟩ := ih h
      refine ⟨n + 1, w, hw, hopaque, fun k w' hk hw' => ?_, ?_⟩
      · cases k with
        | zero =>
          obtain rfl : u = w' := Option.some.inj hw'
          exact Classical.not_not.mp htransparent
        | succ k => exact hbefore k w' (Nat.lt_of_succ_lt_succ hk) hw'
      · rw [Nat.add_assoc, Nat.add_comm 1 n]

/-- The selected units, in order (62_ppu.md R351). -/
theorem selectedUnit_iff (p : Ppu) (n : Nat) (u : SpriteUnit) :
    (p.sprites.toList.take p.spriteCount)[n]? = some u ↔ n < p.spriteCount ∧ p.sprites[n]? = some u := by
  rw [List.getElem?_take, ← Vector.getElem?_toList]
  split <;> simp [*]

/-- Settles O54: the background pixel is read from its two bits, and the sprite pixel is the first opaque one
of the selected units (`firstOpaque_eq_none_iff`, `firstOpaque_eq_some`). -/
theorem pixelSourcesFollowTheirRules : Obligations.PixelSourcesFollowTheirRules := by
  intro p x
  simp only [← valueAt_toNat, ne_eq, valueAt_toNat_eq_zero_iff]
  refine ⟨?px, twoBits_toNat _ _, ?none, fun c hc => ?some⟩
  case px =>
    rw [Ppu.backgroundPixel]
    dsimp only
    rw [apply_ite BitVec.toNat, twoBits_toNat]
    rfl
  case none =>
    rw [Ppu.spritePixel]
    cases bitOf p.mask 4 && (decide (8 ≤ x) || bitOf p.mask 2)
    · exact iff_of_true rfl (.inl rfl)
    · rw [if_pos rfl, firstOpaque_eq_none_iff]
      refine ⟨fun h => .inr fun n u hn hu => h n u ((selectedUnit_iff p n u).mpr ⟨hn, hu⟩), fun h n u hu => ?_⟩
      obtain ⟨hn, hu⟩ := (selectedUnit_iff p n u).mp hu
      exact h.resolve_left (by decide) n u hn hu
  case some =>
    rw [Ppu.spritePixel] at hc
    split at hc
    next hshown =>
      obtain ⟨n, u, hu, hopaque, hbefore, rfl⟩ := firstOpaque_eq_some hc
      obtain ⟨hn, hu⟩ := (selectedUnit_iff p n u).mp hu
      refine ⟨hshown, n, u, hn, hu, hopaque,
        fun k w hk hw => hbefore k w hk ((selectedUnit_iff p k w).mpr ⟨Nat.lt_trans hk hn, hw⟩), rfl,
        BitVec.toNat_setWidth _ _, rfl, ?_⟩
      rw [Nat.zero_add]
    next => cases hc

/-! ### Pixel output -/

/-- The palette index of a background pixel as a number (62_ppu.md R352). -/
theorem bgIndex_toNat (b : Pixel) : (bgIndex b).toNat = b.pal.toNat * 4 + b.px.toNat := by
  rw [bgIndex, BitVec.toNat_setWidth, toNat_append_eq, toNat_append_eq, BitVec.toNat_ofNat]
  omega

/-- The palette index of a sprite pixel as a number (62_ppu.md R352). -/
theorem spriteIndex_toNat (b : Pixel) : (spriteIndex b).toNat = 16 + b.pal.toNat * 4 + b.px.toNat := by
  rw [spriteIndex, BitVec.toNat_setWidth, toNat_append_eq, toNat_append_eq, BitVec.toNat_ofNat]
  omega

/-- At a visible dot a tick changes `status` and the framebuffer as its pixel does, whether rendering is on or
off: the background step after it touches neither (62_ppu.md R330, R352). -/
theorem tick_visibleDot (env : PpuEnv) {p : Ppu} {y x : Nat} (hy : y < 240) (hx : x < 256)
    (hline : p.scanline = y) (hdot : p.dot = x + 1) :
    (p.tick env).framebuffer = (p.outputPixel y x).framebuffer ∧
    (p.tick env).status = (p.outputPixel y x).status := by
  have hq := tick_sprites env p
  rw [dotActions_renderDot env (by omega) (by omega), renderDot_ne_257 env _ p (by omega),
    if_pos (by omega : 0 ≤ p.scanline ∧ 1 ≤ p.dot ∧ p.dot ≤ 256), hline, hdot,
    Int.toNat_natCast, Nat.add_sub_cancel] at hq
  split at hq
  · have hfetch := (renderFetch_frame env (y : Int) (x + 1) (p.outputPixel y x)).2
    exact ⟨hq.framebuffer.trans hfetch.framebuffer, hq.status.trans hfetch.status⟩
  · exact ⟨hq.framebuffer, hq.status⟩

/-- Settles O55: the tick's pixel (`tick_visibleDot`) is one write of the framebuffer; the composition rule and
the sprite-zero hit are read off for each sprite pixel. -/
theorem pixelOutputWritesItsCell : Obligations.PixelOutputWritesItsCell := by
  intro env p y x hinv hy hx hline hdot
  obtain ⟨hframebuffer, hstatus⟩ := tick_visibleDot env hy hx hline hdot
  have hcell : ∀ k, (p.tick env).framebuffer.read k = if 256 * y + x = k then
      p.palette.read (palCell (composeIndex (p.backgroundPixel x) (p.spritePixel x)).toNat)
      else p.framebuffer.read k := by
    intro k
    rw [hframebuffer, ← palIndex_eq_palCell]
    exact Memory.read_write hinv.framebuffer.1 _ _ k
  refine ⟨fun k hk => (hcell k).trans (if_neg (Ne.symm hk)), ?composition, hstatus.trans ?hit⟩
  case composition =>
    refine (hcell _).trans ((if_pos rfl).trans ?_)
    rw [← bgIndex_toNat]
    cases p.spritePixel x with
    | none =>
      rw [composeIndex]
      split <;> rfl
    | some c =>
      dsimp only
      rw [← spriteIndex_toNat, composeIndex]
      split
      · rfl
      · split <;> rfl
  case hit =>
    rw [Ppu.outputPixel]
    cases p.spritePixel x with
    | none => rfl
    | some c => simp [spriteZeroHit, and_assoc]

end Sys2Proof.Claims

/-! ## The checks of `load`, and the soft reset (70_reset_and_hazards.md R381, R386) -/

namespace Sys2Proof.Claims

open Sys2Proof.Machine

/-! ### The fields that the checks read -/

/-- The magic is bytes 0 to 3, and it needs four bytes (70_reset_and_hazards.md R386). -/
theorem take_four_eq_magic_iff (image : List Byte) :
    image.take 4 = magic ↔ 4 ≤ image.length ∧ imageByte image 0 = 0x4E#8 ∧ imageByte image 1 = 0x45#8 ∧
      imageByte image 2 = 0x53#8 ∧ imageByte image 3 = 0x1A#8 := by
  match image with
  | [] | [_] | [_, _] | [_, _, _] => simp [magic]
  | a :: b :: c :: d :: rest => simp [magic, imageByte]

/-- The high half of one byte above the high half of another. -/
theorem ushiftRight_or_and_0xF0 (lo hi : Byte) :
    lo >>> 4 ||| hi &&& 0xF0#8 = hi.extractLsb' 4 4 ++ lo.extractLsb' 4 4 := by
  apply BitVec.eq_of_getLsbD_eq
  intro j hj
  simp only [BitVec.getLsbD_or, BitVec.getLsbD_ushiftRight, BitVec.getLsbD_and, BitVec.getLsbD_append,
    BitVec.getLsbD_extractLsb']
  rcases lt_eight hj with rfl | rfl | rfl | rfl | rfl | rfl | rfl | rfl <;> simp

/-- The mapper number: the high half of byte 6 below the high half of byte 7 (70_reset_and_hazards.md R384). -/
theorem parseHeader_mapperId (image : List Byte) :
    (parseHeader image).mapperId =
      BitVec.ofNat 8 ((imageByte image 6).toNat / 16 + (imageByte image 7).toNat / 16 * 16) := by
  have hlo := (imageByte image 6).isLt
  have hhi := (imageByte image 7).isLt
  refine (ushiftRight_or_and_0xF0 _ _).trans (BitVec.eq_of_toNat_eq ?_)
  simp only [toNat_append_eq, BitVec.extractLsb'_toNat, Nat.shiftRight_eq_div_pow, BitVec.toNat_ofNat]
  omega

/-- What NROM can hold (70_reset_and_hazards.md R386). -/
theorem fitsNrom_iff (h : Header) :
    h.fitsNrom = true ↔ (h.prgBanks = 1 ∨ h.prgBanks = 2) ∧ h.chrBanks ≤ 1 ∧ h.fourScreen = false := by
  simp [Header.fitsNrom, and_assoc]

/-! ### Each check, when those before it pass -/

theorem load_of_loadError {image : List Byte} {e : RomError} (h : loadError image = some e)
    (params : Config.LaunchParams) : load image params = .error e := by
  rw [load, h]

theorem loadError_badMagic {image : List Byte} (hmagic : image.take 4 ≠ magic) :
    loadError image = some .badMagic :=
  if_pos hmagic

theorem loadError_truncated {image : List Byte} (hmagic : image.take 4 = magic)
    (hlength : ¬ (16 ≤ image.length ∧ (parseHeader image).imageSize ≤ image.length)) :
    loadError image = some .truncatedData := by
  rw [loadError, if_neg (not_not_intro hmagic), if_pos (by omega)]

theorem loadError_ofMapper {image : List Byte} (hmagic : image.take 4 = magic)
    (hlength : 16 ≤ image.length ∧ (parseHeader image).imageSize ≤ image.length) :
    loadError image =
      if (parseHeader image).mapperId ≠ 0x00#8 then some (.unsupportedMapper (parseHeader image).mapperId)
      else if !(parseHeader image).fitsNrom then some (.unsupportedMapper 0x00#8)
      else none := by
  rw [loadError, if_neg (not_not_intro hmagic), if_neg (by omega)]

/-- Settles O58: the three checks of `loadError` one after another, with the header's fields in the words of
the statement. -/
theorem loadChecksInOrder : Obligations.LoadChecksInOrder := by
  intro image params b magicOk need longEnough mapperId fits
  have hmagic : image.take 4 = magic ↔ magicOk := take_four_eq_magic_iff image
  have hmapper : (parseHeader image).mapperId = mapperId := parseHeader_mapperId image
  have hfits : (parseHeader image).fitsNrom = true ↔ fits := fitsNrom_iff _
  refine ⟨fun hm => ?badMagic, fun hm hl => ?truncated, fun hm hl hid => ?otherMapper,
    fun hm hl hid hf => ?notNrom, fun hm hl hid hf => ?accepted⟩
  case badMagic => exact load_of_loadError (loadError_badMagic (mt hmagic.mp hm)) params
  case truncated => exact load_of_loadError (loadError_truncated (hmagic.mpr hm) hl) params
  all_goals have he := loadError_ofMapper (hmagic.mpr hm) hl
  case otherMapper =>
    rw [hmapper, if_pos hid] at he
    exact load_of_loadError he params
  all_goals rw [hmapper, if_neg (not_not_intro hid)] at he
  case notNrom =>
    rw [Bool.eq_false_iff.mpr (mt hfits.mp hf)] at he
    exact load_of_loadError he params
  case accepted =>
    rw [hfits.mpr hf] at he
    exact ⟨_, by rw [load, he]; rfl⟩

/-! ### The soft reset -/

/-- Settles O57: `softReset_eq` gives the whole state; the reset vector lies in PRG ROM, so its bytes are
those the bus reads. -/
theorem softResetWritesOnlyItsList : Obligations.SoftResetWritesOnlyItsList := by
  intro s t
  have ht : t = _ := softReset_eq s
  rw [byteAt_rom s (by decide), byteAt_rom s (by decide), ht]
  exact ⟨wordOf_toNat _ _, rfl⟩

end Sys2Proof.Claims
